-- ==== Sys2Proof/Word.lean ====
section
/-! DEFINITION. The plain word and index types of the model. Everything the manual treats as bits on
the bus is a bit vector; everything it counts, names or measures is a `Nat`, an `Int`, a `Fin` or a
type of names. -/

namespace Sys2Proof

/-- One payload byte, one revision number or one sequence number (00_scope 5.4: 8-bit values). -/
abbrev Byte := BitVec 8

/-- A valid station address 0..62 (00_scope 5.5). -/
abbrev Station := Fin 63

/-- A parcel number 0..7 (00_scope 5.5). -/
abbrev ParcelNo := Fin 8

/-- A route term position 0..23 (00_scope 5.5). -/
abbrev TermPos := Fin 24

/-- The number of one of the four cadence timers T0..T3 (R155). -/
abbrev TimerNo := Fin 4

end Sys2Proof
end

