-- ==== Sys2Proof/Syntax.lean ====
section
/-! DEFINITION. The commands of the block: one constructor of `Instr` for each row of
spec/opcode_table.json, with the operands the row's event carries. -/

namespace Sys2Proof

/-- What a three-level strap pin reads: low 0, open 1, high 2 (R197). -/
inductive StrapLevel where
  | low
  | openPin
  | high
  deriving DecidableEq, Repr

/-- The five strap pins sampled at power-on reset (R197). -/
structure Straps where
  addr0 : StrapLevel
  addr1 : StrapLevel
  addr2 : StrapLevel
  role : StrapLevel
  rate : StrapLevel
  deriving DecidableEq, Repr

/-- The level of the ESD input, raw or accepted (R198). -/
inductive EsdLevel where
  | asserted
  | released
  deriving DecidableEq, Repr

/-- The fourteen assigned frame kinds (00_scope 4). -/
inductive FrameKind where
  | gauge
  | meter
  | valve
  | dmeter
  | dparcel
  | dtank
  | droute
  | mark
  | summary
  | query
  | answer
  | alert
  | announce
  | cadence
  deriving DecidableEq, Repr

/-- A frame of a known kind whose end field and check value were right when the receive side judged it:
priority class, source address field and payload bytes (R172, R173). Its length and its source address
are still to be judged (R174). -/
structure Frame where
  cls : BitVec 2
  src : BitVec 6
  payload : List Byte
  deriving DecidableEq, Repr

/-- A frame as the receive side assembles it, field by field (R172). -/
structure RawFrame where
  cls : BitVec 2
  kind : BitVec 4
  src : BitVec 6
  len : BitVec 5
  payload : List Byte
  check : BitVec 16
  ending : BitVec 7
  deriving DecidableEq, Repr

/-- The commands: spec/opcode_table.json, row by row. -/
inductive Instr where
  /-- POWER_ON_RESET: the strap levels sampled, and the raw ESD level found at reset end (R197, R198). -/
  | powerOnReset (straps : Straps) (esd : EsdLevel)
  /-- RESET_N: the raw ESD level found at reset end (R197, R198). -/
  | resetN (esd : EsdLevel)
  | staggerEnd
  /-- ESD_INPUT_CHANGE: the level the raw input changes to (R198). -/
  | esdInputChange (level : EsdLevel)
  | esdAssertionAccepted
  | esdReleaseAccepted
  | t0Zero
  | t1Zero
  | t2Zero
  | t3Zero
  | handOver
  | snapshot
  | holdCauseRecomputation
  | standardVolumeComputation
  | meterConsumption
  | markApplication
  | figureEvaluation
  | publication
  | gauge (f : Frame)
  | meter (f : Frame)
  | valve (f : Frame)
  | dmeter (f : Frame)
  | dparcel (f : Frame)
  | dtank (f : Frame)
  | droute (f : Frame)
  | mark (f : Frame)
  | summaryFrame (f : Frame)
  | announceFrame (f : Frame)
  | answerFrame (f : Frame)
  | alertFrame (f : Frame)
  | cadenceHalt (f : Frame)
  | cadenceNow (f : Frame)
  | cadenceResume (f : Frame)
  | queryParcel (f : Frame)
  | queryTank (f : Frame)
  | queryMeter (f : Frame)
  | queryTerm (f : Frame)
  | queryNode (f : Frame)
  | queryTimer (f : Frame)
  /-- BAD_FRAME: the frame as assembled (R174). -/
  | badFrame (r : RawFrame)
  /-- ADDRESS_CLASH: the good frame that bears the node's own address (R176). -/
  | addressClash (r : RawFrame)
  | busIdle
  | lostArbitration
  | readbackClash
  | frameSent
  | referenceTick
  | identifierComplete
  | startBit
  deriving DecidableEq, Repr

end Sys2Proof
end

