-- ==== Sys2Proof/Decode.lean ====
section
/-! DEFINITION. The decoder over the opcode table's bits. spec/opcode_table.json gives bits for no row, so
no word spells a command; the layouts of frame payloads are decoded in Machine/Operands.lean. -/

namespace Sys2Proof

/-- The command a word of the opcode table's bits spells. The table gives bits for none of its rows. -/
def decodeTableWord (_nbits _w : Nat) : Option Instr := none

end Sys2Proof
end

