-- ==== Sys2Proof/Config.lean ====
section
/-! DEFINITION. The free values: what the manual leaves open. A free value is a constant without a
body, so no proof can see which value it takes. -/

namespace Sys2Proof

/-- When the start-up stagger ends with an ESD alert still owed, R199 names the arbiter's offer and the
queueing of the owed alert (R200) as acts of two blocks and states no order between them. The value says
whether the alert is queued before the offer. DESIGN CHOICE (log 4): a free value, so either order may
come about. -/
opaque Config.owedAlertBeforeOffer : Nat → Bool

end Sys2Proof
end

