-- ==== Sys2Proof/Machine/State.lean ====
section
/-! DEFINITION. The state of the node, block by block as 00_scope 3 lists them, as plain data; the reasons
a step can stop; and the state right after reset. -/

namespace Sys2Proof.Machine

/-! ### Names shared by several blocks -/

/-- A node's role (R197, Table 10-1). -/
inductive Role where
  | ship
  | shore
  | independent
  deriving DecidableEq, Repr

/-- The bus rate, in kbit/s (R197). -/
inductive BusRate where
  | kbit125
  | kbit250
  | kbit500
  deriving DecidableEq, Repr

/-- The side of a tank (R40). -/
inductive Side where
  | ship
  | shore
  deriving DecidableEq, Repr

/-- A parcel's declared direction (R84). -/
inductive Direction where
  | load
  | discharge
  deriving DecidableEq, Repr

/-- A parcel's shore basis (R84). -/
inductive Basis where
  | tank
  | meter
  deriving DecidableEq, Repr

/-- A parcel's state (R84). -/
inductive ParcelState where
  | vacant
  | declared
  | active
  | held
  | closed
  deriving DecidableEq, Repr

/-- What a MARK asks for (R96). -/
inductive MarkKind where
  | openParcel
  | closeParcel
  | releaseParcel
  deriving DecidableEq, Repr

/-- What a valve station reports of a valve (4.4). -/
inductive ValveState where
  | opened
  | closed
  | moving
  | fault
  deriving DecidableEq, Repr

/-- A tank or meter key: station address and index 0..3 (00_scope 5.5). -/
structure Key where
  station : Station
  index : Fin 4
  deriving DecidableEq, Repr

/-! ### Declarations (Chapter 2) -/

/-- One declaration held by a record: its revision and contents (R26). -/
structure Copy (α : Type) where
  rev : Byte
  contents : α
  deriving DecidableEq, Repr

/-- The declaration state of an object record (R26). -/
structure Decls (α : Type) where
  current : Option (Copy α)
  staged : Option (Copy α)
  handOver : Option (Copy α)
  deriving DecidableEq, Repr

/-- An absent object's declaration state (R26). -/
def Decls.absent {α : Type} : Decls α := ⟨none, none, none⟩

/-- The contents of a DMETER (Table 10-2). -/
structure MeterDecl where
  remove : Bool
  factor : Nat
  deriving DecidableEq, Repr

/-- The contents of a DTANK, side and parcel as coded (Table 10-2, R186). -/
structure TankDecl where
  remove : Bool
  side : Nat
  parcel : Nat
  deriving DecidableEq, Repr

/-- The contents of a DPARCEL: the eleven declared parameters (R84, R88). The depth is kept as its code
0..3. -/
structure ParcelDecl where
  direction : Direction
  cls : Fin 4
  basis : Basis
  option : Fin 4
  mask : Bool
  depthCode : Fin 4
  density : Nat
  vef : Nat
  tolerance : Nat
  floor : Nat
  grade : Byte
  deriving DecidableEq, Repr

/-- One literal as a DROUTE codes it (Table 10-2). -/
structure LiteralCode where
  station : Nat
  required : Nat
  valve : Fin 16
  deriving DecidableEq, Repr

/-- The contents of a DROUTE as coded (Table 10-2); only the literals its count uses (R186). -/
structure TermDecl where
  meterStation : Nat
  meterIndex : Fin 4
  parcel : Nat
  count : Nat
  literals : List LiteralCode
  deriving DecidableEq, Repr

/-! ### Tank table (Chapter 3) -/

/-- A gauge reading as reported (R40). -/
structure GaugeReading where
  volume : Nat
  freeWater : Nat
  temp : Int
  deriving DecidableEq, Repr

/-- The working fields of a tank record with a current declaration (R40). -/
structure TankWork where
  side : Side
  parcel : Option ParcelNo
  lastSeq : Option Byte
  reading : Option GaugeReading
  confirm : Nat
  gaugeInvalid : Bool
  volumeClamped : Bool
  tempClamped : Bool
  rebased : Bool
  current : Option Nat
  opening : Option Nat
  deriving DecidableEq, Repr

/-- A tank record (R26, R40). The working fields are held with a current declaration; a staged-only record
holds none. -/
structure TankRec where
  key : Key
  decl : Decls TankDecl
  work : Option TankWork
  deriving DecidableEq, Repr

/-! ### Meter, valve and route term tables (Chapter 4) -/

/-- A meter reading as reported (R59). -/
structure MeterReading where
  cumulative : BitVec 24
  temp : Int
  deriving DecidableEq, Repr

/-- The working fields of a meter record with a current declaration (R59). -/
structure MeterWork where
  factor : Nat
  lastSeq : Option Byte
  reading : Option MeterReading
  baseline : Option (BitVec 24)
  routed : Nat
  conflict : Nat
  unrouted : Nat
  sinceNotice : Nat
  residue : Nat
  lastCredited : Option ParcelNo
  breakSeen : Bool
  deferred : Bool
  tempClamped : Bool
  deriving DecidableEq, Repr

/-- A meter record (R26, R59). -/
structure MeterRec where
  key : Key
  decl : Decls MeterDecl
  work : Option MeterWork
  deriving DecidableEq, Repr

/-- An entry of the valve table (R66). -/
structure ValveEntry where
  station : Station
  states : Vector ValveState 16
  lastSeq : Option Byte
  deriving DecidableEq, Repr

/-- A literal of a term: a named valve required OPEN or required CLOSED (R69). -/
structure Literal where
  station : Station
  valve : Fin 16
  needOpen : Bool
  deriving DecidableEq, Repr

/-- A route term (R69). -/
structure Term where
  meter : Key
  parcel : ParcelNo
  literals : List Literal
  deriving DecidableEq, Repr

/-- A term position: its declaration state and its term, if it is not empty (R69). -/
structure TermRec where
  decl : Decls TermDecl
  term : Option Term
  deriving DecidableEq, Repr

/-! ### Parcel table (Chapter 5) -/

/-- A parcel's hold-cause set (R84, 5.4). -/
structure HoldSet where
  tankStale : Bool
  meterStale : Bool
  esd : Bool
  excursionHold : Bool
  deriving DecidableEq, Repr

/-- The empty hold-cause set. -/
def HoldSet.empty : HoldSet := ⟨false, false, false, false⟩

/-- A mark with its expected revision (R84). -/
structure Mark where
  kind : MarkKind
  expected : Byte
  deriving DecidableEq, Repr

/-- The eight values an evaluation hands to publication (R24, R104). -/
structure Figures where
  s : Int
  sAdj : Int
  hTank : Int
  hMeter : Int
  h : Int
  d : Int
  band : Nat
  saturated : Bool
  deriving DecidableEq, Repr

/-- A parcel's published figure set (R84). -/
structure Published where
  figures : Figures
  state : ParcelState
  closedWhileHeld : Bool
  deriving DecidableEq, Repr

/-- A parcel record (R84). The declared parameters are the contents of the current declaration. -/
structure ParcelRec where
  decl : Decls ParcelDecl
  state : ParcelState
  alpha : Option Nat
  holds : HoldSet
  pendingMark : Option Mark
  inHand : Option Mark
  closing : Bool
  meterTotal : Int
  saturation : Bool
  count : Nat
  excursion : Bool
  peerDiverge : Bool
  closedWhileHeld : Bool
  published : Published
  deriving DecidableEq, Repr

/-! ### Evaluation engine (Chapter 6) -/

/-- The eight stages of a pass (R109). -/
inductive Stage where
  | handOver
  | snapshot
  | holdCauses
  | tankVolumes
  | meterFlow
  | marks
  | figures
  | publication
  deriving DecidableEq, Repr

/-- The pass state (R105). A running pass names the stage it is to carry out next (R109). -/
inductive PassState where
  | idle
  | running (stage : Stage)
  deriving DecidableEq, Repr

/-- A tank's entry in the snapshot (R52). -/
structure TankSnap where
  key : Key
  side : Side
  parcel : Option ParcelNo
  reading : Option GaugeReading
  gaugeInvalid : Bool
  deriving DecidableEq, Repr

/-- A meter's entry in the snapshot (R65). -/
structure MeterSnap where
  key : Key
  factor : Nat
  reading : Option MeterReading
  deriving DecidableEq, Repr

/-- A valve entry's copy in the snapshot (R68). -/
structure ValveSnap where
  station : Station
  states : Vector ValveState 16
  heard : Bool
  deriving DecidableEq, Repr

/-- The snapshot (R111). -/
structure Snapshot where
  tanks : List TankSnap
  meters : List MeterSnap
  valves : List ValveSnap
  stale : Vector Bool 63
  deriving DecidableEq, Repr

/-- The evaluation engine's state (R105, R115). `visited` is how many of its records the stage at work has
dealt with (R113 to R115, R124, log 10). -/
structure Engine where
  pass : PassState
  visited : Nat
  pending : Bool
  overrun : Bool
  snapshot : Option Snapshot
  evaluated : Vector (Option Figures) 8
  deriving DecidableEq, Repr

/-! ### Peer table and summary round (Chapter 8) -/

/-- An entry of the peer table (R145). -/
structure PeerEntry where
  peer : Station
  parcel : ParcelNo
  role : Role
  planRev : Byte
  state : ParcelState
  d : Int
  count : Nat
  planDiffers : Bool
  deriving DecidableEq, Repr

/-- The summary round logic (R140). -/
structure Round where
  running : Bool
  cursor : Nat
  pending : Bool
  deriving DecidableEq, Repr

/-! ### Cadence timers and freshness table (Chapter 9) -/

/-- A timer's mode (R155). -/
inductive TimerMode where
  | time
  | count
  deriving DecidableEq, Repr

/-- A timer's prescale (R155). -/
inductive Prescale where
  | by10
  | by100
  deriving DecidableEq, Repr

/-- A timer's run state (R155). -/
inductive RunState where
  | running
  | halted
  deriving DecidableEq, Repr

/-- A parameter set: mode, prescale and constant (R155). -/
structure TimerParams where
  mode : TimerMode
  prescale : Prescale
  constant : Nat
  deriving DecidableEq, Repr

/-- A cadence timer (R155). `zeroDue` is the model's own field (log 2): what lowers the count has come with
the count at 1, and the act of the zero (R159), the decrement from 1 with its reload, is the next act. -/
structure Timer where
  params : TimerParams
  count : Nat
  phase : Nat
  run : RunState
  pendingSet : Option TimerParams
  zeroDue : Bool
  deriving DecidableEq, Repr

/-- The four cadence timers, T2's stale limit (R155), and whether a CADENCE frame for T3 has been taken
since reset end (R156). -/
structure CadenceTimers where
  timers : Vector Timer 4
  staleLimit : Nat
  t3Set : Bool
  deriving DecidableEq, Repr

/-- An entry of the freshness table (R167). -/
structure FreshEntry where
  age : Nat
  lastRole : Option Role
  deriving DecidableEq, Repr

/-! ### Bus interface and transmit arbiter (Chapter 10) -/

/-- The transmit state (R178). -/
inductive TxState where
  | idle
  | arbitrating
  | sending
  deriving DecidableEq, Repr

/-- The bus interface: whether the bus is idle (R172), whether the receive buffer holds a frame begun
(R174), the transmit state (R178), MUTE (R180), and the frame the transmit side drives, field by field with
its check value (R172, R173). -/
structure BusInterface where
  busIdle : Bool
  receiving : Bool
  tx : TxState
  mute : Bool
  driven : Option RawFrame
  deriving DecidableEq, Repr

/-- A built frame: its kind and payload (R181). -/
structure TxFrame where
  kind : FrameKind
  payload : List Byte
  deriving DecidableEq, Repr

/-- A transmit slot (R181). -/
inductive Slot where
  | empty
  | pending (f : TxFrame)
  | inFlight (f : TxFrame)
  deriving DecidableEq, Repr

/-! ### Alert queue and query queue (Chapter 11) -/

/-- The twelve alert causes (Table 11-1). -/
inductive Cause where
  | excursion
  | peerDiverge
  | stopAdvise
  | openRefused
  | parcelClosed
  | planReject
  | planClash
  | stale
  | routeConflict
  | unrouted
  | totalizerBreak
  | esd
  deriving DecidableEq, Repr

/-- The subject of an alert: class and subject byte (R187, Table 10-1). -/
inductive Subject where
  | nothing
  | parcel (p : ParcelNo)
  | tank (k : Key)
  | meter (k : Key)
  | term (t : TermPos)
  | station (a : Station)
  | all
  deriving DecidableEq, Repr

/-- An alert record (R187). -/
structure AlertRec where
  cause : Cause
  subject : Subject
  value : Int
  time : BitVec 32
  deriving DecidableEq, Repr

/-- The alert queue, oldest record first, and WITHHELD (R187). -/
structure AlertQueue where
  records : List AlertRec
  withheld : Bool
  deriving DecidableEq, Repr

/-- The six query kinds (Table 10-1). -/
inductive QueryKind where
  | parcel
  | tank
  | meter
  | term
  | node
  | timer
  deriving DecidableEq, Repr

/-- A queued query (R190). -/
structure Query where
  querier : Station
  kind : QueryKind
  subject : Byte
  deriving DecidableEq, Repr

/-- The answer build for the head query: the payloads of its parts, and the part now in slot 1 (R191). -/
structure AnswerBuild where
  parts : List (List Byte)
  next : Nat
  deriving DecidableEq, Repr

/-- The query queue, oldest query first, and the answer build (R190, R191). -/
structure QueryQueue where
  queries : List Query
  build : Option AnswerBuild
  deriving DecidableEq, Repr

/-! ### Strap and reset logic (Chapter 12) -/

/-- The start-up stagger (R199). A running stagger holds the milliseconds it still has to run. -/
inductive Stagger where
  | running (left : Nat)
  | ended
  deriving DecidableEq, Repr

/-- The strap and reset logic (Chapter 12). `esdTimer` holds the milliseconds measured while the raw ESD
level differs from the accepted one (R198). -/
structure StrapReset where
  address : Fin 27
  role : Role
  rate : BusRate
  clock : BitVec 32
  stagger : Stagger
  esdRaw : EsdLevel
  esdLevel : EsdLevel
  esdTimer : Option Nat
  esdOwed : Bool
  deriving DecidableEq, Repr

/-! ### The node -/

/-- The state of the node. Tables of records are lists in strictly ascending key order. `alertN` is the
level of the ALERT_N line, true while it is asserted (R135). `told` is the slot whose owner has been told of a
frame sent and has its act still before it (R184). `freeIndex` (log 4) and `pending` are the model's own: the
number of the next free value, and the commands that wait, first in, first out. -/
structure State where
  sr : StrapReset
  bi : BusInterface
  slots : Vector Slot 4
  told : Option (Fin 4)
  tanks : List TankRec
  meters : List MeterRec
  valves : List ValveEntry
  terms : Vector TermRec 24
  parcels : Vector ParcelRec 8
  ee : Engine
  round : Round
  peers : List PeerEntry
  ct : CadenceTimers
  fresh : Vector FreshEntry 63
  aq : AlertQueue
  qq : QueryQueue
  alertN : Bool
  freeIndex : Nat
  pending : List Instr
  deriving DecidableEq, Repr

/-! ### Reasons to stop -/

/-- The model raises no fault: the manual gives every event of the table an effect. -/
inductive Fault where
  deriving DecidableEq, Repr

/-- The reasons to refuse a command. -/
inductive Refusal where
  /-- Raised by `exec` for a command that has no meaning yet; safe. No arm of `exec` raises it. -/
  | notModelled (mnemonic : String)
  deriving DecidableEq, Repr

/-! ### Reset values -/

/-- All figures 0, band 0, SATURATED clear (R85). -/
def Figures.reset : Figures := ⟨0, 0, 0, 0, 0, 0, 0, false⟩

/-- The published set after reset or release, in a given state field (R85, R103). -/
def Published.reset : Published := ⟨Figures.reset, .vacant, false⟩

/-- A parcel record after reset (R85). -/
def ParcelRec.reset : ParcelRec :=
  { decl := Decls.absent
    state := .vacant
    alpha := none
    holds := HoldSet.empty
    pendingMark := none
    inHand := none
    closing := false
    meterTotal := 0
    saturation := false
    count := 0
    excursion := false
    peerDiverge := false
    closedWhileHeld := false
    published := Published.reset }

/-- The engine after reset (R105). -/
def Engine.reset : Engine := ⟨.idle, 0, false, false, none, Vector.replicate 8 none⟩

/-- A timer with a parameter set at its reset setting: count equal to the constant, phase 0, no pending
set (R156). -/
def Timer.resetTo (p : TimerParams) (run : RunState) : Timer := ⟨p, p.constant, 0, run, none, false⟩

/-- The cadence timers at reset end. T3 is HALTED until the stagger ends (R156). -/
def CadenceTimers.reset (t3 : RunState) : CadenceTimers :=
  { timers := #v[Timer.resetTo ⟨.time, .by100, 10⟩ .running,
                 Timer.resetTo ⟨.count, .by100, 5⟩ .running,
                 Timer.resetTo ⟨.time, .by100, 50⟩ .running,
                 Timer.resetTo ⟨.time, .by100, 256⟩ t3]
    staleLimit := 3
    t3Set := false }

/-- The stagger at reset end: the address times 250 ms, and ENDED at address 0 (R199). -/
def Stagger.reset (address : Fin 27) : Stagger :=
  if address.val = 0 then .ended else .running (address.val * 250)

/-- Every part of the node but the strapped facts and the ESD level, at its value after either reset,
before the acts a stagger of no length brings at reset end (R156, R200). -/
def State.atResetEnd (address : Fin 27) (role : Role) (rate : BusRate) (esd : EsdLevel)
    (freeIndex : Nat) (pending : List Instr) : State :=
  { sr :=
      { address := address
        role := role
        rate := rate
        clock := 0
        stagger := Stagger.reset address
        esdRaw := esd
        esdLevel := esd
        esdTimer := none
        esdOwed := decide (esd = .asserted) }
    bi := ⟨false, false, .idle, false, none⟩
    slots := Vector.replicate 4 .empty
    told := none
    tanks := []
    meters := []
    valves := []
    terms := Vector.replicate 24 ⟨Decls.absent, none⟩
    parcels := Vector.replicate 8 ParcelRec.reset
    ee := Engine.reset
    round := ⟨false, 0, false⟩
    peers := []
    ct := CadenceTimers.reset (if address.val = 0 then .running else .halted)
    fresh := Vector.replicate 63 ⟨15, none⟩
    aq := ⟨[], false⟩
    qq := ⟨[], none⟩
    alertN := false
    freeIndex := freeIndex
    pending := pending }

/-- The machine right after reset. The straps and the ESD input are read from outside: with all five strap
pins low (address 0, SHIP, 125 kbit/s) and the ESD input released. DESIGN CHOICE (log 1). -/
def State.reset : State := State.atResetEnd 0 .ship .kbit125 .released 0 []

end Sys2Proof.Machine
end

