-- ==== Sys2Proof/Machine/Arith.lean ====
section
/-! DEFINITION. The arithmetic unit (Chapter 1, R1 to R24): exact integers, with the roundings, clamps and
saturations the rules name, each at the point its rule gives. -/

namespace Sys2Proof.Machine

/-- A value with a report of whether a clamp or a saturation acted on it (R1). -/
structure Reported (α : Type) where
  value : α
  limited : Bool
  deriving DecidableEq, Repr

/-- The limit every signed quantity saturates at (00_scope 5.1). -/
def satLimit : Int := 2147483647

/-- A signed quantity held within ±2,147,483,647, and whether it saturated (R15). -/
def saturate (x : Int) : Reported Int :=
  if satLimit < x then ⟨satLimit, true⟩
  else if x < -satLimit then ⟨-satLimit, true⟩
  else ⟨x, false⟩

/-! ### Expansion coefficient -/

/-- K0t, in tenths (R2). -/
def k0t : Fin 4 → Nat
  | 0 => 3460
  | 1 => 1869
  | 2 => 5980
  | 3 => 0

/-- K1h, in hundredths (R2). -/
def k1h : Fin 4 → Nat
  | 0 => 44
  | 1 => 49
  | 2 => 5
  | 3 => 62

/-- The expansion coefficient α in 10^-9 per °C (R3): two quotients, each truncated on its own. -/
def expansion (cls : Fin 4) (density : Nat) : Nat :=
  k0t cls * 10 ^ 10 / (density * density) + k1h cls * 10 ^ 8 / density

/-! ### Temperature correction -/

/-- A reported temperature clamped to −2000..+9000 (R4). -/
def clampTemp (t : Int) : Reported Int :=
  if t < -2000 then ⟨-2000, true⟩ else if 9000 < t then ⟨9000, true⟩ else ⟨t, false⟩

/-- X, in units of 10^-11, from α and the difference Δ from 15.00 °C (R5). -/
def tempTerm (alpha : Nat) (delta : Int) : Int := alpha * delta

/-- Q, in units of 10^-11: three times the square of X divided by 10^12, truncated (R5). -/
def secondOrder (x : Int) : Int := 3 * (x * x) / 10 ^ 12

/-- CTL_raw, in units of 10^-11 (R5). -/
def ctlRaw (alpha : Nat) (delta : Int) : Int :=
  10 ^ 11 - tempTerm alpha delta - secondOrder (tempTerm alpha delta)

/-- CTL5 from CTL_raw: rounded half-up, then clamped to 90,000..110,000 (R6). -/
def ctlRounded (raw : Int) : Nat := max 90000 (min 110000 ((raw + 500000) / 1000000).toNat)

/-- CTL5 for a reported temperature and a stored α, and whether the temperature was clamped (R4 to R6). -/
def ctl5 (alpha : Nat) (temp : Int) : Reported Nat :=
  ⟨ctlRounded (ctlRaw alpha ((clampTemp temp).value - 1500)), (clampTemp temp).limited⟩

/-! ### Tank standard volume -/

/-- The observed volume clamped to 0..99,999,999 (R8). -/
def clampVolume (v : Nat) : Reported Nat := if 99999999 < v then ⟨99999999, true⟩ else ⟨v, false⟩

/-- The net observed volume (R9); where FW is the greater, 0. -/
def netVolume (clamped freeWater : Nat) : Nat := clamped - freeWater

/-- The gross standard volume: net times CTL5, rounded half-up to whole litres (R10). -/
def grossStandard (net ctl : Nat) : Nat := (net * ctl + 50000) / 100000

/-- A tank's standard volume from a reading and its parcel's α (R8 to R10). -/
def standardVolume (alpha : Nat) (r : GaugeReading) : Nat :=
  grossStandard (netVolume (clampVolume r.volume).value r.freeWater) (ctl5 alpha r.temp).value

/-! ### Meter increment -/

/-- The indicated delta, modulo 2^24 (R11). -/
def indicatedDelta (cumulative baseline : BitVec 24) : Nat := (cumulative - baseline).toNat

/-- The largest delta that is a flow; a greater one is a totalizer break (R11). -/
def largestFlow : Nat := 8388608

/-- The meter product P, in units of 10^-10 L (R12). -/
def meterProduct (delta factor ctl residue : Nat) : Nat := delta * factor * ctl + residue

/-- The increment in standard litres and the new residue (R12). -/
def meterIncrement (delta factor ctl residue : Nat) : Nat × Nat :=
  (meterProduct delta factor ctl residue / 10 ^ 10, meterProduct delta factor ctl residue % 10 ^ 10)

/-! ### Parcel figures -/

/-- S_adj before its limit: S × 10,000 / VEF4, rounded half away from zero (R20). -/
def vefRounded (s : Int) (vef : Nat) : Int :=
  s.sign * (((2 * s.natAbs * 10000 + vef) / (2 * vef) : Nat) : Int)

/-- The tolerance band (R22). -/
def toleranceBand (tolerance floor : Nat) (sAdj h : Int) : Nat :=
  max (floor * 100) ((tolerance * max sAdj.natAbs h.natAbs + 5000) / 10000)

/-- The figure set of a parcel and its excursion result, with SATURATED not yet taken from the parcel's
indication (R24). -/
structure Evaluation where
  figures : Figures
  excursive : Bool
  deriving DecidableEq, Repr

/-- The figures of one parcel, in dependency order (R15 to R24), from the exact sums over its ship and
shore tanks, its running meter total and its saturation indication. SATURATED is set when the indication
was set or any figure saturates here (R19). -/
def evaluate (decl : ParcelDecl) (shipSum shoreSum meterTotal : Int) (indication : Bool) : Evaluation :=
  let s := saturate shipSum
  let hTank := saturate shoreSum
  let h := match decl.basis with
    | .tank => hTank.value
    | .meter => meterTotal
  let sAdj := saturate (vefRounded s.value decl.vef)
  let d := saturate (sAdj.value - h)
  let band := toleranceBand decl.tolerance decl.floor sAdj.value h
  { figures :=
      { s := s.value
        sAdj := sAdj.value
        hTank := hTank.value
        hMeter := meterTotal
        h := h
        d := d.value
        band := band
        saturated := indication || s.limited || hTank.limited || sAdj.limited || d.limited }
    excursive := decide (band < d.value.natAbs) }

end Sys2Proof.Machine
end

