-- ==== Sys2Proof/Machine/Frames.lean ====
section
/-! DEFINITION. The form of a CSB frame: bit fields, kinds and lengths, the check value, the identifier,
and the judgement of a received frame (Chapter 10, R172 to R174). -/

namespace Sys2Proof.Machine

/-! ### Bytes and bits -/

/-- The field of `width` bits of a byte whose lowest bit is bit `low` (R186: bit 7 is the most
significant). -/
def fieldOf (b : Byte) (low width : Nat) : Nat := b.toNat / 2 ^ low % 2 ^ width

/-- Byte `i` of a payload. A payload of its kind's length holds every byte its layout names. -/
def byteAt (p : List Byte) (i : Nat) : Byte := p.getD i 0

/-- The unsigned number in `n` payload bytes from byte `i`, most significant first (R186). -/
def unsignedAt (p : List Byte) (i : Nat) : Nat → Nat
  | 0 => 0
  | n + 1 => unsignedAt p i n * 256 + (byteAt p (i + n)).toNat

/-- The two's complement number in two payload bytes (R186). -/
def signed16At (p : List Byte) (i : Nat) : Int := (BitVec.ofNat 16 (unsignedAt p i 2)).toInt

/-- The two's complement number in four payload bytes (R186). -/
def signed32At (p : List Byte) (i : Nat) : Int := (BitVec.ofNat 32 (unsignedAt p i 4)).toInt

/-- `n` as `k` bytes, most significant first (R186). -/
def unsignedBytes : Nat → Nat → List Byte
  | 0, _ => []
  | k + 1, n => BitVec.ofNat 8 (n / 256 ^ k) :: unsignedBytes k n

/-- A signed quantity as `k` bytes of two's complement, most significant first (R186). -/
def signedBytes (k : Nat) (v : Int) : List Byte := unsignedBytes k (v % 256 ^ k).toNat

/-- One byte from a number below 256. -/
def byteOf (n : Nat) : Byte := BitVec.ofNat 8 n

/-- The `width` low bits of `n`, most significant first (R172). -/
def bitsOf : Nat → Nat → List Bool
  | 0, _ => []
  | w + 1, n => n.testBit w :: bitsOf w n

/-! ### Kinds and lengths -/

/-- The kind numbers of 00_scope 4. -/
def kindCode : FrameKind → Nat
  | .gauge => 1
  | .meter => 2
  | .valve => 3
  | .dmeter => 4
  | .dparcel => 5
  | .dtank => 6
  | .droute => 7
  | .mark => 8
  | .summary => 9
  | .query => 10
  | .answer => 11
  | .alert => 12
  | .announce => 13
  | .cadence => 14

/-- The kind a number names. Kinds 0 and 15 are unassigned (00_scope 4). -/
def kindOfCode : Nat → Option FrameKind
  | 1 => some .gauge
  | 2 => some .meter
  | 3 => some .valve
  | 4 => some .dmeter
  | 5 => some .dparcel
  | 6 => some .dtank
  | 7 => some .droute
  | 8 => some .mark
  | 9 => some .summary
  | 10 => some .query
  | 11 => some .answer
  | 12 => some .alert
  | 13 => some .announce
  | 14 => some .cadence
  | _ => none

/-- Whether a payload length is the one set for a kind: the fixed length of Table 10-2, and 3..16 for
ANSWER (R174). -/
def lengthOk : FrameKind → Nat → Bool
  | .gauge, n => n == 11
  | .meter, n => n == 7
  | .valve, n => n == 5
  | .dmeter, n => n == 6
  | .dparcel, n => n == 12
  | .dtank, n => n == 4
  | .droute, n => n == 12
  | .mark, n => n == 3
  | .summary, n => n == 15
  | .query, n => n == 3
  | .answer, n => decide (3 ≤ n) && decide (n ≤ 16)
  | .alert, n => n == 11
  | .announce, n => n == 8
  | .cadence, n => n == 4

/-- The station a source address field names. 63 is no station address (00_scope 5.5). -/
def stationOf (a : BitVec 6) : Option Station :=
  if h : a.toNat < 63 then some ⟨a.toNat, h⟩ else none

/-! ### Identifier and check value -/

/-- A frame's identifier: class times 1,024, plus kind times 64, plus source address (R173). -/
def identifier (cls kind src : Nat) : Nat := cls * 1024 + kind * 64 + src

/-- One bit into the check register (R172): polynomial x^16 + x^12 + x^5 + 1, that is 4129. -/
def checkStep (reg : BitVec 16) (bit : Bool) : BitVec 16 :=
  if xor reg.msb bit then (reg <<< 1) ^^^ 4129#16 else reg <<< 1

/-- The check value over a run of bits, from the preset of all ones (R172). -/
def checkOf (bits : List Bool) : BitVec 16 := bits.foldl checkStep 0xFFFF#16

/-- The bits the check value covers: identifier, length and payload, in the order sent (R172). -/
def coveredBits (cls kind src len : Nat) (payload : List Byte) : List Bool :=
  bitsOf 12 (identifier cls kind src) ++ bitsOf 5 len ++ payload.flatMap (fun b => bitsOf 8 b.toNat)

/-- A frame's bits from the start bit to the last end bit; 1 is recessive (R172). -/
def frameBits (r : RawFrame) : List Bool :=
  false :: (coveredBits r.cls.toNat r.kind.toNat r.src.toNat r.len.toNat r.payload
    ++ bitsOf 16 r.check.toNat ++ bitsOf 7 r.ending.toNat)

/-- The frame the node drives for a payload of a kind in a slot, at its address (R172, R173): the slot
number is the priority class, and the check value is computed over the bits sent. -/
def drivenFrame (slot : Nat) (kind : FrameKind) (address : Nat) (payload : List Byte) : RawFrame :=
  { cls := BitVec.ofNat 2 slot
    kind := BitVec.ofNat 4 (kindCode kind)
    src := BitVec.ofNat 6 address
    len := BitVec.ofNat 5 payload.length
    payload := payload
    check := checkOf (coveredBits slot (kindCode kind) address payload.length payload)
    ending := 0x7F#7 }

/-! ### Judgement -/

/-- Whether an assembled frame is good (R174). The frame's payload holds the bytes its length field
announces. -/
def isGood (r : RawFrame) : Bool :=
  decide (r.ending = 0x7F#7)
    && decide (r.len.toNat ≤ 16)
    && decide (r.payload.length = r.len.toNat)
    && decide (r.check = checkOf (coveredBits r.cls.toNat r.kind.toNat r.src.toNat r.len.toNat r.payload))
    && decide (r.src.toNat < 63)
    && match kindOfCode r.kind.toNat with
       | some k => lengthOk k r.len.toNat
       | none => false

/-- Whether a frame of kind `k` passes the tests of R174 that its operands leave open: its length and
its source address. -/
def passes (k : FrameKind) (f : Frame) : Bool :=
  lengthOk k f.payload.length && decide (f.src.toNat < 63)

end Sys2Proof.Machine
end

