-- ==== Sys2Proof/Machine/Operands.lean ====
section
/-! DEFINITION. The operand forms: the payload of every received frame kind, decoded as Table 10-2 lays it
out, and the codes of Table 10-1. A coded value that names nothing is passed on as it stands (R186). -/

namespace Sys2Proof.Machine

/-! ### Codes (Table 10-1) -/

/-- The role a code names; 0 names none. -/
def roleOfCode : Nat → Option Role
  | 1 => some .ship
  | 2 => some .shore
  | 3 => some .independent
  | _ => none

/-- A role's code. -/
def roleCode : Role → Nat
  | .ship => 1
  | .shore => 2
  | .independent => 3

/-- The parcel state a code names; 5..15 name none. -/
def stateOfCode : Nat → Option ParcelState
  | 0 => some .vacant
  | 1 => some .declared
  | 2 => some .active
  | 3 => some .held
  | 4 => some .closed
  | _ => none

/-- A parcel state's code. -/
def stateCode : ParcelState → Nat
  | .vacant => 0
  | .declared => 1
  | .active => 2
  | .held => 3
  | .closed => 4

/-- The valve state of a two-bit code. -/
def valveStateOf (code : Nat) : ValveState :=
  match code with
  | 0 => .opened
  | 1 => .closed
  | 2 => .moving
  | _ => .fault

/-- The query kind a code names. -/
def queryKindOfCode : Nat → Option QueryKind
  | 1 => some .parcel
  | 2 => some .tank
  | 3 => some .meter
  | 4 => some .term
  | 5 => some .node
  | 6 => some .timer
  | _ => none

/-- A query kind's code. -/
def queryKindCode : QueryKind → Nat
  | .parcel => 1
  | .tank => 2
  | .meter => 3
  | .term => 4
  | .node => 5
  | .timer => 6

/-- The mark a code names (Table 10-2); any other code names none (R96). -/
def markOfCode : Nat → Option MarkKind
  | 1 => some .openParcel
  | 2 => some .closeParcel
  | 3 => some .releaseParcel
  | _ => none

/-- A mark's code (Table 10-2). -/
def markCode : MarkKind → Nat
  | .openParcel => 1
  | .closeParcel => 2
  | .releaseParcel => 3

/-- A cause's code. -/
def causeCode : Cause → Nat
  | .excursion => 1
  | .peerDiverge => 2
  | .stopAdvise => 3
  | .openRefused => 4
  | .parcelClosed => 5
  | .planReject => 6
  | .planClash => 7
  | .stale => 8
  | .routeConflict => 9
  | .unrouted => 10
  | .totalizerBreak => 11
  | .esd => 12

/-- The parcel code for no parcel (Table 10-1). -/
def noParcelCode : Nat := 15

/-- A parcel code, 15 for NONE. -/
def parcelCode : Option ParcelNo → Nat
  | some p => p.val
  | none => noParcelCode

/-- The key byte: station address times 4, plus index. -/
def keyCode (k : Key) : Nat := k.station.val * 4 + k.index.val

/-- The key a key byte names. A byte whose station field is 63 names none (R25, R192). -/
def keyOfCode (n : Nat) : Option Key :=
  if h : n / 4 < 63 then some ⟨⟨n / 4, h⟩, Fin.ofNat 4 n⟩ else none

/-- An alert subject's class. -/
def subjectClass : Subject → Nat
  | .nothing => 0
  | .parcel _ => 1
  | .tank _ => 2
  | .meter _ => 3
  | .term _ => 4
  | .station _ => 5
  | .all => 6

/-- An alert subject's byte; 0 for none and ALL (R187). -/
def subjectByte : Subject → Nat
  | .nothing => 0
  | .parcel p => p.val
  | .tank k => keyCode k
  | .meter k => keyCode k
  | .term t => t.val
  | .station a => a.val
  | .all => 0

/-- The depth a depth code selects (5.2). -/
def depthOfCode : Fin 4 → Nat
  | 0 => 1
  | 1 => 2
  | 2 => 4
  | 3 => 6

/-! ### Reports -/

/-- A GAUGE payload (Table 10-2). -/
structure GaugeMsg where
  index : Fin 4
  valid : Bool
  seq : Byte
  reading : GaugeReading
  deriving DecidableEq, Repr

/-- GAUGE, 11 bytes (Table 10-2). -/
def decodeGauge (p : List Byte) : GaugeMsg :=
  { index := Fin.ofNat 4 (fieldOf (byteAt p 0) 0 2)
    valid := (byteAt p 0).getLsbD 7
    seq := byteAt p 1
    reading := ⟨unsignedAt p 2 4, unsignedAt p 6 3, signed16At p 9⟩ }

/-- A METER payload (Table 10-2). -/
structure MeterMsg where
  index : Fin 4
  valid : Bool
  seq : Byte
  reading : MeterReading
  deriving DecidableEq, Repr

/-- METER, 7 bytes (Table 10-2). -/
def decodeMeter (p : List Byte) : MeterMsg :=
  { index := Fin.ofNat 4 (fieldOf (byteAt p 0) 0 2)
    valid := (byteAt p 0).getLsbD 7
    seq := byteAt p 1
    reading := ⟨BitVec.ofNat 24 (unsignedAt p 2 3), signed16At p 5⟩ }

/-- A VALVE payload (Table 10-2). -/
structure ValveMsg where
  seq : Byte
  states : Vector ValveState 16
  deriving DecidableEq, Repr

/-- VALVE, 5 bytes: valve v in byte 1 + v div 4, two bits from bit 2(v mod 4) (Table 10-2). -/
def decodeValve (p : List Byte) : ValveMsg :=
  { seq := byteAt p 0
    states := Vector.ofFn fun v : Fin 16 =>
      valveStateOf (fieldOf (byteAt p (1 + v.val / 4)) (2 * (v.val % 4)) 2) }

/-! ### Declarations and marks -/

/-- A declaration as received: the object's key, where it names one, and the copy (R25). -/
structure DeclMsg (κ α : Type) where
  key : Option κ
  copy : Copy α
  deriving DecidableEq, Repr

/-- DMETER, 6 bytes (Table 10-2). -/
def decodeDMeter (p : List Byte) : DeclMsg Key MeterDecl :=
  { key := keyOfCode (byteAt p 0).toNat
    copy := ⟨byteAt p 1, ⟨(byteAt p 2).getLsbD 0, unsignedAt p 3 3⟩⟩ }

/-- DTANK, 4 bytes (Table 10-2). -/
def decodeDTank (p : List Byte) : DeclMsg Key TankDecl :=
  { key := keyOfCode (byteAt p 0).toNat
    copy := ⟨byteAt p 1,
      { remove := (byteAt p 2).getLsbD 7
        side := fieldOf (byteAt p 2) 0 2
        parcel := fieldOf (byteAt p 3) 0 4 }⟩ }

/-- DPARCEL, 12 bytes (Table 10-2). -/
def decodeDParcel (p : List Byte) : DeclMsg ParcelNo ParcelDecl :=
  { key := some (Fin.ofNat 8 (fieldOf (byteAt p 0) 0 3))
    copy := ⟨byteAt p 1,
      { direction := if (byteAt p 2).getLsbD 0 then .discharge else .load
        cls := Fin.ofNat 4 (fieldOf (byteAt p 2) 1 2)
        basis := if (byteAt p 2).getLsbD 3 then .meter else .tank
        option := Fin.ofNat 4 (fieldOf (byteAt p 2) 4 2)
        mask := (byteAt p 2).getLsbD 6
        depthCode := Fin.ofNat 4 (fieldOf (byteAt p 3) 0 2)
        density := unsignedAt p 4 2
        vef := unsignedAt p 6 2
        tolerance := (byteAt p 8).toNat
        floor := unsignedAt p 9 2
        grade := byteAt p 11 }⟩ }

/-- Literal position `i` of a DROUTE, two bytes from byte 4 + 2i (Table 10-2). -/
def decodeLiteral (p : List Byte) (i : Nat) : LiteralCode :=
  { station := fieldOf (byteAt p (4 + 2 * i)) 2 6
    required := fieldOf (byteAt p (4 + 2 * i)) 0 2
    valve := Fin.ofNat 16 (fieldOf (byteAt p (5 + 2 * i)) 0 4) }

/-- The literals a DROUTE uses: the first n for a count n in 0..4, and none for a count above 4, whose
literal positions are not decoded (R186). -/
def decodeLiterals (p : List Byte) (count : Nat) : List LiteralCode :=
  if count ≤ 4 then (List.range count).map (decodeLiteral p) else []

/-- DROUTE, 12 bytes (Table 10-2). -/
def decodeDRoute (p : List Byte) : DeclMsg TermPos TermDecl :=
  { key := if h : (byteAt p 0).toNat < 24 then some ⟨(byteAt p 0).toNat, h⟩ else none
    copy := ⟨byteAt p 1,
      { meterStation := fieldOf (byteAt p 2) 2 6
        meterIndex := Fin.ofNat 4 (fieldOf (byteAt p 2) 0 2)
        parcel := fieldOf (byteAt p 3) 0 4
        count := fieldOf (byteAt p 3) 4 4
        literals := decodeLiterals p (fieldOf (byteAt p 3) 4 4) }⟩ }

/-- A MARK payload (Table 10-2). -/
structure MarkMsg where
  parcel : ParcelNo
  kind : Option MarkKind
  expected : Byte
  deriving DecidableEq, Repr

/-- MARK, 3 bytes (Table 10-2). -/
def decodeMark (p : List Byte) : MarkMsg :=
  { parcel := Fin.ofNat 8 (fieldOf (byteAt p 0) 0 3)
    kind := markOfCode (byteAt p 1).toNat
    expected := byteAt p 2 }

/-! ### Peer frames -/

/-- What a node takes from a SUMMARY payload (R147). -/
structure SummaryMsg where
  parcel : ParcelNo
  role : Option Role
  state : Option ParcelState
  planRev : Byte
  d : Int
  deriving DecidableEq, Repr

/-- SUMMARY, 15 bytes (Table 10-2). The flags and the figures S_adj and H reach no owner (R147). -/
def decodeSummary (p : List Byte) : SummaryMsg :=
  { parcel := Fin.ofNat 8 (fieldOf (byteAt p 0) 0 3)
    role := roleOfCode (fieldOf (byteAt p 0) 4 2)
    state := stateOfCode (fieldOf (byteAt p 1) 0 4)
    planRev := byteAt p 2
    d := signed32At p 11 }

/-- What a node takes from an ANNOUNCE payload (R151, R168). -/
structure AnnounceMsg where
  role : Option Role
  states : Vector (Option ParcelState) 8
  deriving DecidableEq, Repr

/-- ANNOUNCE, 8 bytes: parcel 2k in bits 3..0 and parcel 2k + 1 in bits 7..4 of byte 1 + k (Table 10-2). -/
def decodeAnnounce (p : List Byte) : AnnounceMsg :=
  { role := roleOfCode (fieldOf (byteAt p 0) 0 2)
    states := Vector.ofFn fun q : Fin 8 =>
      stateOfCode (fieldOf (byteAt p (1 + q.val / 2)) (4 * (q.val % 2)) 4) }

/-! ### Cadence and query -/

/-- A CADENCE payload (Table 10-2, R161). -/
structure CadenceMsg where
  target : Nat
  timer : TimerNo
  params : TimerParams
  staleLimit : Nat
  halt : Bool
  now : Bool
  deriving DecidableEq, Repr

/-- CADENCE, 4 bytes; a constant of 0 stands for 256 (Table 10-2). -/
def decodeCadence (p : List Byte) : CadenceMsg :=
  { target := fieldOf (byteAt p 0) 0 6
    timer := Fin.ofNat 4 (fieldOf (byteAt p 1) 0 2)
    params :=
      { mode := if (byteAt p 1).getLsbD 2 then .count else .time
        prescale := if (byteAt p 1).getLsbD 3 then .by100 else .by10
        constant := if (byteAt p 2).toNat = 0 then 256 else (byteAt p 2).toNat }
    staleLimit := fieldOf (byteAt p 3) 0 4
    halt := (byteAt p 1).getLsbD 6
    now := (byteAt p 1).getLsbD 7 }

/-- A QUERY payload (Table 10-2). -/
structure QueryMsg where
  target : Nat
  kind : Option QueryKind
  subject : Byte
  deriving DecidableEq, Repr

/-- QUERY, 3 bytes (Table 10-2). -/
def decodeQuery (p : List Byte) : QueryMsg :=
  { target := fieldOf (byteAt p 0) 0 6
    kind := queryKindOfCode (byteAt p 1).toNat
    subject := byteAt p 2 }

/-! ### Straps -/

/-- The number a strap pin reads (R197). -/
def strapValue : StrapLevel → Nat
  | .low => 0
  | .openPin => 1
  | .high => 2

/-- The address the straps give: ADDR0 + 3 × ADDR1 + 9 × ADDR2 (R197). -/
def strapAddress (t : Straps) : Fin 27 :=
  Fin.ofNat 27 (strapValue t.addr0 + 3 * strapValue t.addr1 + 9 * strapValue t.addr2)

/-- The role the straps give (Table 12-1). -/
def strapRole (t : Straps) : Role :=
  match t.role with
  | .low => .ship
  | .openPin => .shore
  | .high => .independent

/-- The bus rate the straps give (Table 12-1). -/
def strapRate (t : Straps) : BusRate :=
  match t.rate with
  | .low => .kbit125
  | .openPin => .kbit250
  | .high => .kbit500

end Sys2Proof.Machine
end

