-- ==== Sys2Proof/Machine/Ops.lean ====
section
/-! DEFINITION. The operations several commands share: the keyed tables, the transmit arbiter's offer and
loads, the alert queue, the ALERT_N line, the freshness table and the cadence timers. -/

namespace Sys2Proof.Machine

/-! ### Vectors and keyed tables -/

/-- A function at every place of a vector, given the place. -/
def mapPlaces {α β : Type} {n : Nat} (v : Vector α n) (f : Fin n → α → β) : Vector β n :=
  Vector.ofFn fun i => f i v[i]

/-- One place of a vector replaced. -/
def setPlace {α : Type} {n : Nat} (v : Vector α n) (i : Fin n) (x : α) : Vector α n :=
  v.set i.val x i.isLt

/-- The record of a key in a table whose records are numbered by `ord` in key order. -/
def findRec {α : Type} (ord : α → Nat) (k : Nat) (l : List α) : Option α :=
  l.find? fun r => ord r == k

/-- A record put into a table at its key's place, in place of the record that held the key. -/
def putRec {α : Type} (ord : α → Nat) (r : α) : List α → List α
  | [] => [r]
  | x :: xs =>
    if ord r < ord x then r :: x :: xs
    else if ord r = ord x then r :: xs
    else x :: putRec ord r xs

/-- A table without the record of a key. -/
def dropRec {α : Type} (ord : α → Nat) (k : Nat) (l : List α) : List α :=
  l.filter fun r => ord r != k

/-- A table's canonical form: keys strictly rising, so no two records share a key (R40, R59, R66, R145). -/
def keysRising {α : Type} (ord : α → Nat) : List α → Bool
  | [] => true
  | [_] => true
  | x :: y :: rest => decide (ord x < ord y) && keysRising ord (y :: rest)

/-- A tank record's place in key order. -/
def tankOrd (r : TankRec) : Nat := keyCode r.key

/-- A meter record's place in key order (R73). -/
def meterOrd (r : MeterRec) : Nat := keyCode r.key

/-- A valve entry's place in key order. -/
def valveOrd (e : ValveEntry) : Nat := e.station.val

/-- A peer entry's place in key order: peer address, then parcel. -/
def peerOrd (e : PeerEntry) : Nat := e.peer.val * 8 + e.parcel.val

/-- The tank record of a key. -/
def State.tank? (s : State) (k : Key) : Option TankRec := findRec tankOrd (keyCode k) s.tanks

/-- The meter record of a key. -/
def State.meter? (s : State) (k : Key) : Option MeterRec := findRec meterOrd (keyCode k) s.meters

/-- The valve entry of a station. -/
def State.valve? (s : State) (a : Station) : Option ValveEntry := findRec valveOrd a.val s.valves

/-- The peer entry of a peer and a parcel. -/
def State.peer? (s : State) (a : Station) (p : ParcelNo) : Option PeerEntry :=
  findRec peerOrd (a.val * 8 + p.val) s.peers

/-- A tank record put into the tank table. -/
def State.putTank (s : State) (r : TankRec) : State := { s with tanks := putRec tankOrd r s.tanks }

/-- A meter record put into the meter table. -/
def State.putMeter (s : State) (r : MeterRec) : State := { s with meters := putRec meterOrd r s.meters }

/-- A valve entry put into the valve table. -/
def State.putValve (s : State) (e : ValveEntry) : State := { s with valves := putRec valveOrd e s.valves }

/-- A peer entry put into the peer table. -/
def State.putPeer (s : State) (e : PeerEntry) : State := { s with peers := putRec peerOrd e s.peers }

/-- The tank table without a key (R36). -/
def State.dropTank (s : State) (k : Key) : State := { s with tanks := dropRec tankOrd (keyCode k) s.tanks }

/-- The meter table without a key (R36). -/
def State.dropMeter (s : State) (k : Key) : State :=
  { s with meters := dropRec meterOrd (keyCode k) s.meters }

/-- A parcel record replaced. -/
def State.putParcel (s : State) (p : ParcelNo) (r : ParcelRec) : State :=
  { s with parcels := setPlace s.parcels p r }

/-- A term position's record replaced. -/
def State.putTerm (s : State) (t : TermPos) (r : TermRec) : State :=
  { s with terms := setPlace s.terms t r }

/-! ### Transmit arbiter -/

/-- Whether a slot holds a pending frame. -/
def Slot.isPending : Slot → Bool
  | .pending _ => true
  | _ => false

/-- Whether a slot's frame is in flight. -/
def Slot.isInFlight : Slot → Bool
  | .inFlight _ => true
  | _ => false

/-- A pending frame put in flight. -/
def Slot.offered : Slot → Slot
  | .pending f => .inFlight f
  | x => x

/-- A frame in flight returned to pending, unchanged (R183). -/
def Slot.returned : Slot → Slot
  | .inFlight f => .pending f
  | x => x

/-- The slots in order. -/
def allSlots : List (Fin 4) := [0, 1, 2, 3]

/-- The lowest-numbered slot that holds a pending frame (R182). -/
def lowestPending (v : Vector Slot 4) : Option (Fin 4) := allSlots.find? fun i => v[i].isPending

/-- The slot whose frame is in flight. -/
def inFlightSlot (v : Vector Slot 4) : Option (Fin 4) := allSlots.find? fun i => v[i].isInFlight

/-- The conditions of an offer but the pending frame (R182): the bus idle, the transmit state IDLE, MUTE
clear, the stagger ended. -/
def mayOffer (s : State) : Bool :=
  s.bi.busIdle && decide (s.bi.tx = .idle) && !s.bi.mute && decide (s.sr.stagger = .ended)

/-- The frame the transmit side drives for a slot's frame: the slot's class, the frame's kind, the node's
address, the payload and the check value computed over them (R172, R173). -/
def frameOfSlot (address : Fin 27) (i : Fin 4) : Slot → Option RawFrame
  | .pending f => some (drivenFrame i.val f.kind address.val f.payload)
  | .inFlight f => some (drivenFrame i.val f.kind address.val f.payload)
  | .empty => none

/-- The offer (R182): where every condition holds, the lowest pending frame becomes in flight and the transmit
side drives it from its start bit, which ends the idle of the bus and which the receive side reads too
(R177). -/
def offer (s : State) : State :=
  if mayOffer s then
    match lowestPending s.slots with
    | some i =>
      { s with
        slots := setPlace s.slots i s.slots[i].offered
        bi :=
          { s.bi with
            tx := .arbitrating
            busIdle := false
            receiving := true
            driven := frameOfSlot s.sr.address i s.slots[i] } }
    | none => s
  else s

/-- Whether the arbiter takes a load into slot `i` (R181, R185): the slot is empty, or it is slot 3 and
holds a pending frame. -/
def takesLoad (i : Fin 4) : Slot → Bool
  | .empty => true
  | .pending _ => decide (i = 3)
  | .inFlight _ => false

/-- A load (R181): the built frame is placed pending, and on an idle bus it is judged for an offer at once
(R182). -/
def loadSlot (i : Fin 4) (f : TxFrame) (s : State) : State :=
  if takesLoad i s.slots[i] then offer { s with slots := setPlace s.slots i (.pending f) } else s

/-- A slot emptied. -/
def emptySlot (i : Fin 4) (s : State) : State := { s with slots := setPlace s.slots i .empty }

/-! ### Alert queue -/

/-- The most alert records queued (R188). -/
def maxAlerts : Nat := 16

/-- Whether two alert records share cause and subject (R188). -/
def sameAlert (a b : AlertRec) : Bool := decide (a.cause = b.cause) && decide (a.subject = b.subject)

/-- The ALERT frame of a record (Table 10-2). -/
def alertFrame (r : AlertRec) : TxFrame :=
  { kind := .alert
    payload := [byteOf (causeCode r.cause), byteOf (subjectClass r.subject), byteOf (subjectByte r.subject)]
      ++ signedBytes 4 r.value ++ unsignedBytes 4 r.time.toNat }

/-- The queue's records with one record's value and time replaced, its place kept (R188). -/
def replaceAlert (r : AlertRec) (l : List AlertRec) : List AlertRec :=
  l.map fun x => if sameAlert x r then r else x

/-- An alert reaches the alert queue (R188, R189). R188 makes that an event of its own; that it follows the
act which raised the alert with no event between is the model's choice (log 26). A replacement that falls on
the head, whose frame is loaded, sets WITHHELD; a record appended to an empty queue is loaded into slot 0 at
once. -/
def queueAlert (cause : Cause) (subject : Subject) (value : Int) (s : State) : State :=
  let r : AlertRec := ⟨cause, subject, value, s.sr.clock⟩
  match s.aq.records with
  | [] => loadSlot 0 (alertFrame r) { s with aq := { s.aq with records := [r] } }
  | head :: rest =>
    if sameAlert head r then
      { s with aq := ⟨r :: rest, true⟩ }
    else if rest.any fun x => sameAlert x r then
      { s with aq := { s.aq with records := head :: replaceAlert r rest } }
    else if (head :: rest).length < maxAlerts then
      { s with aq := { s.aq with records := head :: rest ++ [r] } }
    else
      { s with aq := { s.aq with withheld := true } }

/-- The same alert raised `n` times in a row (R79). -/
def queueAlertTimes (cause : Cause) (subject : Subject) (value : Int) : Nat → State → State
  | 0, s => s
  | n + 1, s => queueAlertTimes cause subject value n (queueAlert cause subject value s)

/-- The PLAN-REJECT reasons (R34). -/
inductive RejectReason where
  | tableFull
  | range
  | protectedParcel
  | inUse
  | unknownReference
  | capacity
  | markRevision
  | markState
  deriving DecidableEq, Repr

/-- A reason's code (R34). -/
def rejectCode : RejectReason → Nat
  | .tableFull => 1
  | .range => 2
  | .protectedParcel => 3
  | .inUse => 4
  | .unknownReference => 5
  | .capacity => 6
  | .markRevision => 7
  | .markState => 8

/-- A PLAN-REJECT alert: revision plus 256 times the reason code (R34). -/
def planReject (subject : Subject) (rev : Byte) (reason : RejectReason) (s : State) : State :=
  queueAlert .planReject subject ((rev.toNat + 256 * rejectCode reason : Nat) : Int) s

/-- A PLAN-CLASH alert: the shared revision, reason code 0 (R34). -/
def planClash (subject : Subject) (rev : Byte) (s : State) : State :=
  queueAlert .planClash subject ((rev.toNat : Nat) : Int) s

/-! ### ALERT_N -/

/-- Whether a parcel's mask is clear. A parcel without a current declaration has no mask, and its latches
are clear (R123). -/
def unmasked (r : ParcelRec) : Bool :=
  match r.decl.current with
  | some c => !c.contents.mask
  | none => true

/-- The condition of ALERT_N (R135): some parcel with mask clear holds a latch, or the node is MUTE. -/
def alertCondition (s : State) : Bool :=
  s.parcels.toList.any (fun r => unmasked r && (r.excursion || r.peerDiverge)) || s.bi.mute

/-- The line follows its condition (R135). -/
def driveAlertN (s : State) : State := { s with alertN := alertCondition s }

/-! ### Freshness table -/

/-- Whether a station is stale: its age has reached the stale limit (R167). -/
def isStale (s : State) (a : Station) : Bool := decide (s.ct.staleLimit ≤ s.fresh[a].age)

/-- A heard report sets the station's age to 0 (R168). -/
def heard (a : Station) (s : State) : State :=
  { s with fresh := setPlace s.fresh a { s.fresh[a] with age := 0 } }

/-- The role a station gives in a SUMMARY or ANNOUNCE; a code that names no role leaves the last role heard
as it was (R168). -/
def heardRole (a : Station) (role : Option Role) (s : State) : State :=
  match role with
  | some r => { s with fresh := setPlace s.fresh a { s.fresh[a] with lastRole := some r } }
  | none => s

/-- The weights of the kinds of reference to a station (R170). -/
def staleWeights (s : State) (a : Station) : Nat :=
  (if s.tanks.any fun r => decide (r.key.station = a) && r.decl.current.isSome then 1 else 0)
    + (if s.meters.any fun r => decide (r.key.station = a) && r.decl.current.isSome then 2 else 0)
    + (if s.valves.any fun e => decide (e.station = a) then 4 else 0)
    + (if s.peers.any fun e => decide (e.peer = a) then 8 else 0)

/-- The code of a station's last role heard, 0 when absent (R170). -/
def lastRoleCode (s : State) (a : Station) : Nat :=
  match s.fresh[a].lastRole with
  | some r => roleCode r
  | none => 0

/-- One fresh-to-stale transition, handled whole (R169): the STALE alert of a referenced station (R170),
judged before the removal of the station's peer entries (R152). -/
def goStale (s : State) (a : Station) : State :=
  let told :=
    if staleWeights s a = 0 then s
    else queueAlert .stale (.station a) ((staleWeights s a + 16 * lastRoleCode s a : Nat) : Int) s
  { told with peers := told.peers.filter fun e => decide (e.peer ≠ a) }

/-- An act on ages or limit, with the fresh-to-stale transitions it makes handled in ascending station
address (R169). -/
def withTransitions (act : State → State) (s : State) : State :=
  ((List.finRange 63).filter fun a => !isStale s a && isStale (act s) a).foldl goStale (act s)

/-- The greatest age; it is held there (R166, R167). -/
def maxAge : Nat := 15

/-- Every station one sweep older, at most 15 (R166). -/
def ageAll (s : State) : State :=
  { s with fresh := mapPlaces s.fresh fun _ e => { e with age := min (e.age + 1) maxAge } }

/-- The freshness sweep of a T2 zero (R166). -/
def sweep (s : State) : State := withTransitions ageAll s

/-! ### Cadence timers -/

/-- Milliseconds for one prescaler output (R155). -/
def prescaleOf : Prescale → Nat
  | .by10 => 10
  | .by100 => 100

/-- A decrement of the count (R157, R158). The decrement from 1 is the zero event, one act with the reload
(R155, R159): it falls due here and is the timer's next act, before anything else is taken (log 2). -/
def Timer.decrement (t : Timer) : Timer :=
  if t.count ≤ 1 then { t with zeroDue := true } else { t with count := t.count - 1 }

/-- One tick of the 1 ms reference (R157): taken by a timer in TIME mode and RUNNING alone. -/
def Timer.tick (t : Timer) : Timer :=
  if t.run = .running ∧ t.params.mode = .time then
    if prescaleOf t.params.prescale ≤ t.phase + 1 then Timer.decrement { t with phase := 0 }
    else { t with phase := t.phase + 1 }
  else t

/-- One count event (R158): taken by a timer in COUNT mode and RUNNING alone. -/
def Timer.countEvent (t : Timer) : Timer :=
  if t.run = .running ∧ t.params.mode = .count then t.decrement else t

/-- The timer's own part in the act of its zero, the decrement from 1 (R155, R159): a pending parameter set
becomes current, the count is set to the constant of the current set, and the prescale phase is 0. -/
def Timer.reload (t : Timer) : Timer :=
  { t with
    params := t.pendingSet.getD t.params
    pendingSet := none
    count := (t.pendingSet.getD t.params).constant
    phase := 0
    zeroDue := false }

/-- One timer changed. -/
def State.mapTimer (s : State) (i : TimerNo) (f : Timer → Timer) : State :=
  { s with ct := { s.ct with timers := setPlace s.ct.timers i (f s.ct.timers[i]) } }

/-- A count event of a timer's source (R158). -/
def countEvent (i : TimerNo) (s : State) : State := s.mapTimer i Timer.countEvent

/-- The start of T3 at the end of the stagger, unless a CADENCE frame for T3 has been taken since reset end
(R156). -/
def startT3 (s : State) : State :=
  if s.ct.t3Set then s
  else s.mapTimer 3 fun t =>
    { t with
      params := t.pendingSet.getD t.params
      pendingSet := none
      count := (t.pendingSet.getD t.params).constant
      phase := 0
      run := .running }

/-! ### Modular comparison -/

/-- Whether an 8-bit value is newer than another: the difference modulo 256 lies in 1..127 (00_scope 5.4). -/
def newer (r q : Byte) : Bool := decide (1 ≤ (r - q).toNat) && decide ((r - q).toNat ≤ 127)

/-- Whether a frame's sequence is taken: none is held, or it is newer than the one held (R47, R63, R68). -/
def seqTaken (last : Option Byte) (seq : Byte) : Bool :=
  match last with
  | some q => newer seq q
  | none => true

/-! ### Reception -/

/-- The bus interface at the judgement of a frame it received: the receive buffer is empty again (R174). The
bus stays busy until its next idle (R172). -/
def judged (s : State) : State := { s with bi := { s.bi with receiving := false } }

/-- MUTE set by an address clash (R176, R179, R180): the transmit state becomes IDLE, nothing is driven any
more, and ALERT_N follows. -/
def goMute (s : State) : State :=
  driveAlertN { s with bi := { s.bi with mute := true, tx := .idle, driven := none } }

/-- Whether the frame on the bus is one the receive side judges: its receive buffer holds a frame begun
(R174), and it is no frame of the node's own, which the transmit side reads back (R176). -/
def receives (s : State) : Bool := s.bi.receiving && decide (s.bi.tx = .idle)

/-- The receive side judges a frame of a kind (R174 to R176). Without a frame begun there is none to judge
(log 12). A bad frame is discarded, a good frame of the node's own address is an address clash, and any
other good frame is reported heard and handed to its owner. R175 makes the owner's taking of the payload an event
of its own; that it follows the heard report with no event between is the model's choice (log 26). -/
def receive (k : FrameKind) (f : Frame) (owner : Station → State → State) (s : State) : State :=
  if receives s then
    if lengthOk k f.payload.length then
      match stationOf f.src with
      | none => judged s
      | some a => if a.val = s.sr.address.val then goMute (judged s) else owner a (heard a (judged s))
    else judged s
  else s

end Sys2Proof.Machine
end

