-- ==== Sys2Proof/Machine/Flags.lean ====
section
/-! DEFINITION. Flags and conditions computed from the tables: opened parcels, hold causes, staleness and
truth in a snapshot, and the flags of an ANNOUNCE or NODE answer. -/

namespace Sys2Proof.Machine

/-- Whether a state is one of an opened parcel: ACTIVE, HELD or CLOSED (R43, R87). -/
def ParcelState.opened : ParcelState → Bool
  | .active => true
  | .held => true
  | .closed => true
  | _ => false

/-- Whether a state is ACTIVE or HELD: the parcel takes hold causes (R90) and meter credit (R76). -/
def ParcelState.working : ParcelState → Bool
  | .active => true
  | .held => true
  | _ => false

/-- Whether stage 4 computes the tanks of a parcel in this state (R53). -/
def ParcelState.computesTanks : ParcelState → Bool
  | .declared => true
  | .active => true
  | .held => true
  | _ => false

/-- Whether the parcel a tank is assigned to is opened (R43). -/
def assignedOpened (s : State) (p : Option ParcelNo) : Bool :=
  match p with
  | some q => s.parcels[q].state.opened
  | none => false

/-- The records of the tanks assigned to a parcel, with their working fields. -/
def assignedTanks (s : State) (p : ParcelNo) : List (Key × TankWork) :=
  s.tanks.filterMap fun r =>
    match r.work with
    | some w => if w.parcel = some p then some (r.key, w) else none
    | none => none

/-- The current route terms, in position order. -/
def heldTerms (s : State) : List Term := s.terms.toList.filterMap (·.term)

/-- The current terms that name a meter (R75, R76). -/
def termsOfMeter (s : State) (k : Key) : List Term := (heldTerms s).filter fun t => decide (t.meter = k)

/-- The current terms that name a parcel (R91, R98). -/
def termsOfParcel (s : State) (p : ParcelNo) : List Term :=
  (heldTerms s).filter fun t => decide (t.parcel = p)

/-- A parcel's declared basis, with a current declaration (R84). -/
def ParcelRec.basis? (r : ParcelRec) : Option Basis := r.decl.current.map (·.contents.basis)

/-- A parcel's declared depth; a parcel without a current declaration has none, and its count stays 0
(R123). -/
def ParcelRec.depth (r : ParcelRec) : Nat :=
  match r.decl.current with
  | some c => depthOfCode c.contents.depthCode
  | none => 0

/-! ### Hold causes -/

/-- Whether a hold-cause set is empty. -/
def HoldSet.isEmpty (h : HoldSet) : Bool := !(h.tankStale || h.meterStale || h.esd || h.excursionHold)

/-- Whether a meter record has DEFERRED set. -/
def meterDeferred (s : State) (k : Key) : Bool :=
  match s.meter? k with
  | some r =>
    match r.work with
    | some w => w.deferred
    | none => false
  | none => false

/-- TANK-STALE at stage 3 (R91). -/
def tankStaleCause (s : State) (stale : Vector Bool 63) (p : ParcelNo) (basis : Option Basis) : Bool :=
  (assignedTanks s p).any fun e =>
    (decide (e.2.side = .ship) || decide (basis = some .tank)) && stale[e.1.station]

/-- METER-STALE at stage 3 (R91). -/
def meterStaleCause (s : State) (stale : Vector Bool 63) (p : ParcelNo) (basis : Option Basis) : Bool :=
  decide (basis = some .meter)
    && (termsOfParcel s p).any fun t => meterDeferred s t.meter || stale[t.meter.station]

/-- The hold-cause set of a parcel after stage 3 (R91). -/
def recomputedHolds (s : State) (stale : Vector Bool 63) (p : ParcelNo) : HoldSet :=
  { tankStale := tankStaleCause s stale p s.parcels[p].basis?
    meterStale := meterStaleCause s stale p s.parcels[p].basis?
    esd := decide (s.sr.esdLevel = .asserted)
    excursionHold := s.parcels[p].holds.excursionHold }

/-- A parcel in ACTIVE or HELD under a hold-cause set: HELD while it is not empty, ACTIVE when it is
(R91). -/
def ParcelRec.withHolds (r : ParcelRec) (h : HoldSet) : ParcelRec :=
  { r with holds := h, state := if h.isEmpty then .active else .held }

/-- A hold cause enters the set of a parcel in ACTIVE or HELD, which is HELD from then on; a parcel in
another state takes none (R90). -/
def ParcelRec.addHold (r : ParcelRec) (add : HoldSet → HoldSet) : ParcelRec :=
  if r.state.working then { r with holds := add r.holds, state := .held } else r

/-! ### Valve stations and terms in the snapshot -/

/-- The snapshot's copy of a valve entry. -/
def Snapshot.valve? (n : Snapshot) (a : Station) : Option ValveSnap :=
  n.valves.find? fun e => decide (e.station = a)

/-- The snapshot's entry of a tank. -/
def Snapshot.tank? (n : Snapshot) (k : Key) : Option TankSnap := n.tanks.find? fun e => decide (e.key = k)

/-- Whether a valve station counts as stale: stale in the snapshot, or its entry holds no last sequence
taken (R75). -/
def Snapshot.valveStale (n : Snapshot) (a : Station) : Bool :=
  n.stale[a] ||
    match n.valve? a with
    | some e => !e.heard
    | none => true

/-- Whether a literal matches the state of its valve (R72). -/
def Snapshot.literalHolds (n : Snapshot) (l : Literal) : Bool :=
  match n.valve? l.station with
  | some e => decide (e.states[l.valve] = if l.needOpen then .opened else .closed)
  | none => false

/-- Whether a term is true in the pass (R72). -/
def Snapshot.termTrue (n : Snapshot) (t : Term) : Bool := t.literals.all n.literalHolds

/-- Whether a meter with flow is deferred, judged over all the terms that name it (R75). -/
def Snapshot.defers (n : Snapshot) (terms : List Term) : Bool :=
  terms.any fun t => t.literals.any fun l => n.valveStale l.station

/-! ### Role and flags the node reports -/

/-- The effective option: on an INDEPENDENT node declared options 2 and 3 act as option 0 (R129, R131). -/
def effectiveOption (role : Role) (declared : Fin 4) : Fin 4 :=
  if role = .independent ∧ 2 ≤ declared.val then 0 else declared

/-- A flag as a number. -/
def flag (b : Bool) : Nat := b.toNat

/-- The ESD, WITHHELD and OVERRUN flags in bits 4, 5 and 6 beside a role in bits 1..0 (Tables 10-2, 11-2). -/
def conditionByte (role : Role) (esd withheld overrun : Bool) : Byte :=
  byteOf (roleCode role + 16 * flag esd + 32 * flag withheld + 64 * flag overrun)

/-- Whether ESD is asserted, as the strap and reset logic holds it (R198). -/
def esdAsserted (s : State) : Bool := decide (s.sr.esdLevel = .asserted)

end Sys2Proof.Machine
end

