-- ==== Sys2Proof/Machine/Answers.lean ====
section
/-! DEFINITION. The frames the node builds: SUMMARY (R143), ANNOUNCE (R196) and the parts of an answer (R192
to R195), with the layouts of Tables 10-2 and 11-2. -/

namespace Sys2Proof.Machine

/-! ### SUMMARY -/

/-- A parcel's current revision as a byte; 0 where it holds no current declaration. -/
def ParcelRec.revByte (r : ParcelRec) : Byte :=
  match r.decl.current with
  | some c => c.rev
  | none => 0

/-- The SUMMARY of a parcel (R143, Table 10-2). -/
def summaryPayload (role : Role) (p : ParcelNo) (r : ParcelRec) : List Byte :=
  [ byteOf (p.val + 16 * roleCode role),
    byteOf (stateCode r.published.state + 64 * flag r.published.figures.saturated
      + 128 * flag r.published.closedWhileHeld),
    r.revByte ]
    ++ signedBytes 4 r.published.figures.sAdj
    ++ signedBytes 4 r.published.figures.h
    ++ signedBytes 4 r.published.figures.d

/-! ### ANNOUNCE -/

/-- Tank records that hold a current declaration (R196). -/
def declaredTanks (s : State) : Nat := s.tanks.countP fun r => r.decl.current.isSome

/-- Meter records that hold a current declaration (R196). -/
def declaredMeters (s : State) : Nat := s.meters.countP fun r => r.decl.current.isSome

/-- Two parcels' published state fields in one byte (Table 10-2). -/
def statePair (s : State) (low high : ParcelNo) : Byte :=
  byteOf (stateCode s.parcels[low].published.state + 16 * stateCode s.parcels[high].published.state)

/-- The ANNOUNCE of the node, with the two flags as the load gives them (R196, Table 10-2). -/
def announcePayload (s : State) (withheld overrun : Bool) : List Byte :=
  [ conditionByte s.sr.role (esdAsserted s) withheld overrun,
    statePair s 0 1, statePair s 2 3, statePair s 4 5, statePair s 6 7,
    byteOf (declaredTanks s), byteOf (declaredMeters s), byteOf (heldTerms s).length ]

/-! ### Answer contents (Table 11-2) -/

/-- The staged revision, 0 with no staged copy (R195). -/
def Decls.stagedRev {α : Type} (d : Decls α) : Byte :=
  match d.staged with
  | some c => c.rev
  | none => 0

/-- The current revision, 0 with no current declaration. -/
def Decls.currentRev {α : Type} (d : Decls α) : Byte :=
  match d.current with
  | some c => c.rev
  | none => 0

/-- DPARCEL byte 2: direction, class, basis, option, mask (Table 10-2). -/
def parcelBits (d : ParcelDecl) : Byte :=
  byteOf ((match d.direction with | .load => 0 | .discharge => 1) + 2 * d.cls.val
    + (match d.basis with | .tank => 0 | .meter => 8) + 16 * d.option.val + 64 * flag d.mask)

/-- PARCEL, part 1. -/
def parcelPart1 (r : ParcelRec) (d : ParcelDecl) : List Byte :=
  [ byteOf (stateCode r.state + 8 * flag r.decl.staged.isSome + 16 * d.depthCode.val
      + 64 * (match r.pendingMark with | some m => markCode m.kind | none => 0)),
    r.decl.currentRev, r.decl.stagedRev, parcelBits d ]
    ++ unsignedBytes 2 d.density ++ unsignedBytes 2 d.vef ++ [byteOf d.tolerance]
    ++ unsignedBytes 2 d.floor
    ++ [d.grade, match r.pendingMark with | some m => m.expected | none => 0]

/-- PARCEL, part 2. -/
def parcelPart2 (r : ParcelRec) : List Byte :=
  [ byteOf (stateCode r.published.state + 64 * flag r.published.figures.saturated
      + 128 * flag r.published.closedWhileHeld) ]
    ++ signedBytes 4 r.published.figures.sAdj
    ++ signedBytes 4 r.published.figures.hTank
    ++ signedBytes 4 r.published.figures.hMeter

/-- A parcel's peer entries (R154). -/
def peersOf (s : State) (p : ParcelNo) : List PeerEntry := s.peers.filter fun e => decide (e.parcel = p)

/-- The entry with the highest divergence count, and of those the lowest peer address (R154). The entries
stand in ascending peer address. -/
def highestEntry : List PeerEntry → Option PeerEntry
  | [] => none
  | e :: rest =>
    match highestEntry rest with
    | some x => if e.count < x.count then some x else some e
    | none => some e

/-- PARCEL, part 3. -/
def parcelPart3 (s : State) (p : ParcelNo) : List Byte :=
  let r := s.parcels[p]
  let entries := peersOf s p
  let top := highestEntry entries
  [ byteOf (flag r.excursion + 2 * flag r.peerDiverge + 4 * flag r.holds.tankStale
      + 8 * flag r.holds.meterStale + 16 * flag r.holds.esd + 32 * flag r.holds.excursionHold
      + 64 * flag r.saturation + 128 * flag r.closing),
    byteOf (r.count + 8 * entries.length),
    byteOf (entries.countP (·.planDiffers)
      + 32 * (match top with | some e => stateCode e.state | none => 0)),
    byteOf (match top with | some e => e.peer.val + 64 * e.count | none => 0) ]
    ++ signedBytes 4 (match top with | some e => e.d | none => 0)
    ++ signedBytes 4 r.meterTotal

/-- TANK (one part). -/
def tankPart (r : TankRec) (w : TankWork) : List Byte :=
  [ byteOf ((match w.side with | .ship => 0 | .shore => 1) + 2 * flag w.gaugeInvalid
      + 4 * flag w.volumeClamped + 8 * flag w.tempClamped + 16 * flag w.rebased + 32 * w.confirm
      + 128 * flag r.decl.staged.isSome),
    byteOf (parcelCode w.parcel + 16 * flag w.reading.isSome + 32 * flag w.current.isSome
      + 64 * flag w.opening.isSome),
    r.decl.currentRev, r.decl.stagedRev ]
    ++ signedBytes 2 (match w.reading with | some g => g.temp | none => 0)
    ++ unsignedBytes 7 (w.current.getD 0 * 134217728 + w.opening.getD 0)

/-- METER, part 1. -/
def meterPart1 (r : MeterRec) (w : MeterWork) : List Byte :=
  [ byteOf (flag w.breakSeen + 2 * flag w.deferred + 4 * flag w.tempClamped + 8 * flag w.reading.isSome
      + 16 * flag w.baseline.isSome + 32 * flag r.decl.staged.isSome),
    r.decl.currentRev, r.decl.stagedRev ]
    ++ unsignedBytes 2 (w.factor - 95000)
    ++ unsignedBytes 3 (match w.reading with | some g => g.cumulative.toNat | none => 0)
    ++ signedBytes 2 (match w.reading with | some g => g.temp | none => 0)
    ++ unsignedBytes 3 (match w.baseline with | some b => b.toNat | none => 0)

/-- METER, part 2; the residue in hundredths of a litre, truncated (R194). -/
def meterPart2 (w : MeterWork) : List Byte :=
  unsignedBytes 4 w.routed ++ unsignedBytes 4 w.conflict ++ unsignedBytes 4 w.unrouted
    ++ [byteOf (w.residue / 10 ^ 8)]

/-- A literal in DROUTE form (Table 10-2). -/
def literalBytes (l : Literal) : List Byte :=
  [byteOf (l.station.val * 4 + (if l.needOpen then 0 else 1)), byteOf l.valve.val]

/-- TERM (one part). -/
def termPart (r : TermRec) : List Byte :=
  [ byteOf (flag r.term.isSome + 2 * flag r.decl.staged.isSome), r.decl.currentRev, r.decl.stagedRev ]
    ++ match r.term with
       | some t =>
         [byteOf (keyCode t.meter), byteOf (t.parcel.val + 16 * t.literals.length)]
           ++ (t.literals.flatMap literalBytes ++ List.replicate 8 0).take 8
       | none => [0, byteOf noParcelCode] ++ List.replicate 8 0

/-- NODE (one part). -/
def nodePart (s : State) : List Byte :=
  [ conditionByte s.sr.role (esdAsserted s) s.aq.withheld s.ee.overrun, byteOf s.sr.address.val ]
    ++ unsignedBytes 4 s.sr.clock.toNat
    ++ [ byteOf s.tanks.length, byteOf s.meters.length, byteOf (heldTerms s).length,
         byteOf s.valves.length, byteOf s.peers.length, byteOf s.aq.records.length,
         byteOf s.qq.queries.length ]

/-- TIMER (one part). -/
def timerPart (s : State) (i : TimerNo) : List Byte :=
  let t := s.ct.timers[i]
  [ byteOf ((match t.params.mode with | .time => 0 | .count => 1)
      + (match t.params.prescale with | .by10 => 0 | .by100 => 2)
      + (match t.run with | .running => 0 | .halted => 4)),
    byteOf t.params.constant ]
    ++ unsignedBytes 2 t.count
    ++ [byteOf (if i = 2 then s.ct.staleLimit else 0)]

/-! ### The answer build -/

/-- The contents of a query's answer; none where the subject names nothing the node holds (R192). -/
def answerContents (s : State) (q : Query) : Option (List (List Byte)) :=
  match q.kind with
  | .parcel =>
    if h : q.subject.toNat < 8 then
      match s.parcels[q.subject.toNat].decl.current with
      | some c =>
        some [parcelPart1 s.parcels[q.subject.toNat] c.contents, parcelPart2 s.parcels[q.subject.toNat],
          parcelPart3 s ⟨q.subject.toNat, h⟩]
      | none => none
    else none
  | .tank =>
    match (keyOfCode q.subject.toNat).bind s.tank? with
    | some r => r.work.map fun w => [tankPart r w]
    | none => none
  | .meter =>
    match (keyOfCode q.subject.toNat).bind s.meter? with
    | some r => r.work.map fun w => [meterPart1 r w, meterPart2 w]
    | none => none
  | .term =>
    if h : q.subject.toNat < 24 then
      if (s.terms[q.subject.toNat]).decl.current.isSome then some [termPart s.terms[q.subject.toNat]]
      else none
    else none
  | .node => some [nodePart s]
  | .timer => if h : q.subject.toNat < 4 then some [timerPart s ⟨q.subject.toNat, h⟩] else none

/-- The first three bytes of an ANSWER (Table 10-2). -/
def answerHead (q : Query) (absent : Bool) (part count : Nat) : List Byte :=
  [ byteOf (q.querier.val + 128 * flag absent),
    byteOf (queryKindCode q.kind + 16 * part + 64 * count), q.subject ]

/-- The payloads of the answer's parts: content parts numbered from 1, or one part ABSENT (R191, R192). -/
def answerParts (s : State) (q : Query) : List (List Byte) :=
  match answerContents s q with
  | some parts => parts.mapIdx fun i c => answerHead q false (i + 1) parts.length ++ c
  | none => [answerHead q true 1 1]

/-- The head query's answer build is frozen and its part 1 loaded into slot 1, in one act (R191). -/
def freezeHead (s : State) : State :=
  match s.qq.queries with
  | [] => { s with qq := { s.qq with build := none } }
  | q :: _ =>
    let parts := answerParts s q
    loadSlot 1 ⟨.answer, parts.headD []⟩ { s with qq := { s.qq with build := some ⟨parts, 1⟩ } }

end Sys2Proof.Machine
end

