-- ==== Sys2Proof/Machine/HandOver.lean ====
section
/-! DEFINITION. Pass start and stage 1: the act that moves staged copies and marks (R35, R97, R110), and the
owners' decisions on the hand-over copies (R36, R37, R42 to R45, R61, R62, R67, R70, R71, R86 to R88, R150). -/

namespace Sys2Proof.Machine

/-! ### Pass start -/

/-- A staged copy moves to the hand-over copy (R35). -/
def Decls.toHandOver {α : Type} (d : Decls α) : Decls α :=
  match d.staged with
  | some c => { d with staged := none, handOver := some c }
  | none => d

/-- A pass begins: in one act every staged copy becomes its record's hand-over copy and every pending mark
its parcel's mark in hand (R110). -/
def beginPass (s : State) : State :=
  { s with
    ee := { s.ee with pass := .running .handOver, visited := 0 }
    tanks := s.tanks.map fun r => { r with decl := r.decl.toHandOver }
    meters := s.meters.map fun r => { r with decl := r.decl.toHandOver }
    parcels := mapPlaces s.parcels fun _ r =>
      { r with decl := r.decl.toHandOver, inHand := r.pendingMark, pendingMark := none }
    terms := mapPlaces s.terms fun _ r => { r with decl := r.decl.toHandOver } }

/-! ### Acceptance and refusal -/

/-- An accepted copy becomes the current declaration (R36). -/
def Decls.accepted {α : Type} (d : Decls α) (c : Copy α) : Decls α :=
  { d with current := some c, handOver := none }

/-- A refused copy is discarded (R37). -/
def Decls.refused {α : Type} (d : Decls α) : Decls α := { d with handOver := none }

/-- Whether a declaration state, its hand-over copy gone, still holds anything (R26, R37). -/
def Decls.holdsOther {α : Type} (d : Decls α) : Bool := d.current.isSome || d.staged.isSome

/-- A meter copy refused: a staged-only record without a newer staged copy is discarded (R37). -/
def refuseMeter (r : MeterRec) (c : Copy MeterDecl) (why : RejectReason) (s : State) : State :=
  planReject (.meter r.key) c.rev why
    (if r.decl.holdsOther then s.putMeter { r with decl := r.decl.refused } else s.dropMeter r.key)

/-- A tank copy refused (R37). -/
def refuseTank (r : TankRec) (c : Copy TankDecl) (why : RejectReason) (s : State) : State :=
  planReject (.tank r.key) c.rev why
    (if r.decl.holdsOther then s.putTank { r with decl := r.decl.refused } else s.dropTank r.key)

/-- A parcel copy refused (R37, R86). -/
def refuseParcel (p : ParcelNo) (c : Copy ParcelDecl) (why : RejectReason) (s : State) : State :=
  planReject (.parcel p) c.rev why (s.putParcel p { s.parcels[p] with decl := s.parcels[p].decl.refused })

/-- A term copy refused (R37). -/
def refuseTerm (t : TermPos) (c : Copy TermDecl) (why : RejectReason) (s : State) : State :=
  planReject (.term t) c.rev why (s.putTerm t { s.terms[t] with decl := s.terms[t].decl.refused })

/-! ### Meters -/

/-- The working contents of a meter record at creation (R60). -/
def MeterWork.created (factor : Nat) : MeterWork :=
  { factor := factor
    lastSeq := none
    reading := none
    baseline := none
    routed := 0
    conflict := 0
    unrouted := 0
    sinceNotice := 0
    residue := 0
    lastCredited := none
    breakSeen := false
    deferred := false
    tempClamped := false }

/-- Whether a meter factor is admissible (R61). -/
def factorOk (n : Nat) : Bool := decide (95000 ≤ n) && decide (n ≤ 105000)

/-- The meter table's check of a copy for a record (R61). A REMOVE copy for a staged-only record finds
nothing declared and is not refused (R36). -/
def meterRefusal (s : State) (r : MeterRec) (d : MeterDecl) : Option RejectReason :=
  if d.remove then
    if r.decl.current.isSome && !(termsOfMeter s r.key).isEmpty then some .inUse else none
  else if factorOk d.factor then none
  else some .range

/-- The working fields under an accepted factor: created, or the factor replaced (R60, R62). -/
def meterAccepted (w : Option MeterWork) (factor : Nat) : MeterWork :=
  match w with
  | none => MeterWork.created factor
  | some old => { old with factor := factor }

/-- A declaration state under an accepted REMOVE (R36): the current declaration is gone with the hand-over copy.
A copy staged since the pass began stays staged for the next pass (R38, R118, log 9). -/
def Decls.removed {α : Type} (d : Decls α) : Decls α := ⟨none, d.staged, none⟩

/-- An accepted REMOVE of a meter (R36): the record is deleted, or stands staged-only where a copy was staged
since the pass began (R38). -/
def removeMeter (r : MeterRec) (s : State) : State :=
  if r.decl.staged.isSome then s.putMeter ⟨r.key, r.decl.removed, none⟩ else s.dropMeter r.key

/-- An accepted REMOVE of a tank (R36, R45), as for a meter (R38). -/
def removeTank (r : TankRec) (s : State) : State :=
  if r.decl.staged.isSome then s.putTank ⟨r.key, r.decl.removed, none⟩ else s.dropTank r.key

/-- The decision on a meter's hand-over copy (R36, R37, R61, R62). -/
def decideMeter (s : State) (r : MeterRec) : State :=
  match r.decl.handOver with
  | none => s
  | some c =>
    match meterRefusal s r c.contents with
    | some why => refuseMeter r c why s
    | none =>
      if c.contents.remove then removeMeter r s
      else s.putMeter
        { r with decl := r.decl.accepted c, work := some (meterAccepted r.work c.contents.factor) }

/-! ### Tanks -/

/-- The side a code names; 2 and 3 name none (R42). -/
def sideOfCode : Nat → Option Side
  | 0 => some .ship
  | 1 => some .shore
  | _ => none

/-- The assignment a parcel code names; 8..14 name none (R42). -/
def assignmentOfCode (n : Nat) : Option (Option ParcelNo) :=
  if n = noParcelCode then some none
  else if h : n < 8 then some (some ⟨n, h⟩)
  else none

/-- The working contents of a tank record at creation (R41). -/
def TankWork.created (side : Side) (parcel : Option ParcelNo) : TankWork :=
  { side := side
    parcel := parcel
    lastSeq := none
    reading := none
    confirm := 0
    gaugeInvalid := true
    volumeClamped := false
    tempClamped := false
    rebased := false
    current := none
    opening := none }

/-- The working fields under an accepted declaration without REMOVE (R41, R44). -/
def tankAccepted (w : Option TankWork) (side : Side) (parcel : Option ParcelNo) : TankWork :=
  match w with
  | none => TankWork.created side parcel
  | some old =>
    if old.parcel = parcel then { old with side := side }
    else
      { old with
        side := side
        parcel := parcel
        current := none
        opening := none
        volumeClamped := false
        tempClamped := false
        rebased := false }

/-- The tank set of every opened parcel is protected (R43). The copy is judged against the record's working
assignment. -/
def tankProtected (s : State) (w : Option TankWork) (side : Side) (parcel : Option ParcelNo) : Bool :=
  match w with
  | none => assignedOpened s parcel
  | some old =>
    (assignedOpened s old.parcel && (decide (parcel ≠ old.parcel) || decide (side ≠ old.side)))
      || (assignedOpened s parcel && decide (parcel ≠ old.parcel))

/-- Whether a removal is barred: the record's assigned parcel is opened (R43). -/
def tankRemovalBarred (s : State) (w : Option TankWork) : Bool :=
  match w with
  | none => false
  | some old => assignedOpened s old.parcel

/-- The decision on a tank's hand-over copy: range (R42), then protection (R43), then R44 or R45. -/
def decideTank (s : State) (r : TankRec) : State :=
  match r.decl.handOver with
  | none => s
  | some c =>
    if c.contents.remove then
      if tankRemovalBarred s r.work then refuseTank r c .protectedParcel s else removeTank r s
    else
      match sideOfCode c.contents.side, assignmentOfCode c.contents.parcel with
      | some side, some parcel =>
        if tankProtected s r.work side parcel then refuseTank r c .protectedParcel s
        else s.putTank { r with decl := r.decl.accepted c, work := some (tankAccepted r.work side parcel) }
      | _, _ => refuseTank r c .range s

/-! ### Parcels -/

/-- The range step of the parcel table's check (R86). -/
def parcelInRange (d : ParcelDecl) : Bool :=
  decide (6100 ≤ d.density) && decide (d.density ≤ 11000)
    && decide (9800 ≤ d.vef) && decide (d.vef ≤ 10200)
    && decide (5 ≤ d.tolerance) && decide (d.tolerance ≤ 200)
    && decide (d.floor ≠ 0)

/-- Whether the four protected parameters of two declarations agree (R87). -/
def protectedAgree (a b : ParcelDecl) : Bool :=
  decide (a.direction = b.direction) && decide (a.cls = b.cls) && decide (a.density = b.density)
    && decide (a.basis = b.basis)

/-- The parcel table's check of a copy: range, then protection (R86, R87). -/
def parcelRefusal (r : ParcelRec) (d : ParcelDecl) : Option RejectReason :=
  if parcelInRange d then
    match r.decl.current with
    | some c => if r.state.opened && !protectedAgree c.contents d then some .protectedParcel else none
    | none => none
  else some .range

/-- A parcel record under an accepted copy: parameters, α, state and re-arming (R88, R132). -/
def ParcelRec.declared (r : ParcelRec) (c : Copy ParcelDecl) : ParcelRec :=
  { r with
    decl := r.decl.accepted c
    alpha := some (expansion c.contents.cls c.contents.density)
    state := if r.state = .vacant then .declared else r.state
    count := 0
    excursion := false
    peerDiverge := false
    holds := { r.holds with excursionHold := false } }

/-- A parcel's peer entries at its re-arming: counts 0, PLAN-DIFFERS recomputed against the new current
revision (R150). -/
def rearmPeers (p : ParcelNo) (rev : Byte) (l : List PeerEntry) : List PeerEntry :=
  l.map fun e =>
    if e.parcel = p then { e with count := 0, planDiffers := decide (e.planRev ≠ rev) } else e

/-- The decision on a parcel's hand-over copy (R36, R37, R86 to R88, R150); ALERT_N follows the latches and the
mask of an accepted one (R135). -/
def decideParcel (s : State) (p : ParcelNo) : State :=
  match s.parcels[p].decl.handOver with
  | none => s
  | some c =>
    match parcelRefusal s.parcels[p] c.contents with
    | some why => refuseParcel p c why s
    | none =>
      let t := s.putParcel p (s.parcels[p].declared c)
      driveAlertN { t with peers := rearmPeers p c.rev t.peers }

/-! ### Route terms and the valve table -/

/-- The literal a code names: station 0..62 and required state OPEN or CLOSED (R70). -/
def literalOfCode (l : LiteralCode) : Option Literal :=
  if h : l.station < 63 then
    match l.required with
    | 0 => some ⟨⟨l.station, h⟩, l.valve, true⟩
    | 1 => some ⟨⟨l.station, h⟩, l.valve, false⟩
    | _ => none
  else none

/-- Every literal of a list, where each code names one. -/
def literalsOfCodes : List LiteralCode → Option (List Literal)
  | [] => some []
  | l :: rest =>
    match literalOfCode l, literalsOfCodes rest with
    | some x, some xs => some (x :: xs)
    | _, _ => none

/-- The term of a copy whose parcel is not NONE, where its fields pass the range check (R70, check 1). -/
def termOfDecl (d : TermDecl) : Option Term :=
  if hp : d.parcel < 8 then
    if hm : d.meterStation < 63 then
      if d.count ≤ 4 then
        match literalsOfCodes d.literals with
        | some ls => some ⟨⟨⟨d.meterStation, hm⟩, d.meterIndex⟩, ⟨d.parcel, hp⟩, ls⟩
        | none => none
      else none
    else none
  else none

/-- Whether a term has a literal on a station. -/
def termNames (a : Station) (t : Term) : Bool := t.literals.any fun l => decide (l.station = a)

/-- The stations the literals of some terms name, in ascending address (R66). -/
def namedStations (terms : List Term) : List Station :=
  (List.finRange 63).filter fun a => terms.any (termNames a)

/-- The capacity of the valve table (R66). -/
def maxValves : Nat := 8

/-- A new valve entry: every state FAULT, no last sequence taken (R67). -/
def ValveEntry.created (a : Station) : ValveEntry := ⟨a, Vector.replicate 16 .fault, none⟩

/-- The valve table brought into line with the current terms (R66, R67): an entry for each station named,
kept where one stands, created where none does. -/
def alignValves (s : State) : State :=
  { s with valves := (namedStations (heldTerms s)).map fun a => (s.valve? a).getD (ValveEntry.created a) }

/-- Whether a meter key has a record holding a current declaration (R70, check 2). -/
def meterDeclared (s : State) (k : Key) : Bool :=
  match s.meter? k with
  | some r => r.decl.current.isSome
  | none => false

/-- A term position's record with a copy accepted and its term changed (R71). -/
def State.applyTerm (s : State) (t : TermPos) (c : Copy TermDecl) (term : Option Term) : State :=
  alignValves (s.putTerm t ⟨s.terms[t].decl.accepted c, term⟩)

/-- The terms as they would stand with one position's term replaced (R70, check 3). -/
def termsWith (s : State) (t : TermPos) (term : Term) : List Term :=
  heldTerms (s.putTerm t { s.terms[t] with term := some term })

/-- The decision on a term's hand-over copy (R36, R37, R70, R71). -/
def decideTerm (s : State) (t : TermPos) : State :=
  match s.terms[t].decl.handOver with
  | none => s
  | some c =>
    if c.contents.parcel = noParcelCode then s.applyTerm t c none
    else
      match termOfDecl c.contents with
      | none => refuseTerm t c .range s
      | some term =>
        if meterDeclared s term.meter then
          if (namedStations (termsWith s t term)).length ≤ maxValves then s.applyTerm t c (some term)
          else refuseTerm t c .capacity s
        else refuseTerm t c .unknownReference s

/-! ### Stage 1 -/

/-- A record that holds a hand-over copy. -/
inductive Offer where
  | meter (k : Key)
  | tank (k : Key)
  | parcel (p : ParcelNo)
  | term (t : TermPos)
  deriving DecidableEq, Repr

/-- Whether a declaration state holds a hand-over copy (R26). -/
def Decls.handed {α : Type} (d : Decls α) : Bool := d.handOver.isSome

/-- The hand-over copies that are still to be offered, in the order of R35: meters and tanks in key order,
parcels, terms. -/
def offersLeft (s : State) : List Offer :=
  (s.meters.filter (·.decl.handed)).map (fun r => .meter r.key)
    ++ (s.tanks.filter (·.decl.handed)).map (fun r => .tank r.key)
    ++ ((List.finRange 8).filter fun p => s.parcels[p].decl.handed).map .parcel
    ++ ((List.finRange 24).filter fun t => s.terms[t].decl.handed).map .term

/-- The owner's decision on one hand-over copy, on the record as it stands (R35). -/
def decideOffer (s : State) : Offer → State
  | .meter k => (s.meter? k).elim s (decideMeter s)
  | .tank k => (s.tank? k).elim s (decideTank s)
  | .parcel p => decideParcel s p
  | .term t => decideTerm s t

end Sys2Proof.Machine
end

