-- ==== Sys2Proof/Machine/Due.lean ====
section
/-! DEFINITION. The acts that fall due within the node: the zeros of the cadence timers with the work each starts
(R159, R106, R141, R166, R196), the acceptance of an ESD edge that has stood for 20 ms (R198, R94, R95), the end of the
stagger (R199, R200), the owners' acts after a frame sent (R184, R189, R191, R142), and their place before the next
command (log 2, log 21). -/

namespace Sys2Proof.Machine

/-! ### Zeros and their works -/

/-- The act of a timer's zero (R155, R159): the decrement from 1, in which the timer reloads and its work is
started. Where no zero is due there is no such act (log 3). -/
def zeroEvent (i : TimerNo) (work : State → State) (s : State) : State :=
  if s.ct.timers[i].zeroDue then work (s.mapTimer i Timer.reload) else s

/-- A T0 zero at the engine (R106). -/
def requestPass (s : State) : State :=
  match s.ee.pass with
  | .idle => beginPass s
  | .running _ =>
    if s.ee.pending then { s with ee := { s.ee with overrun := true } }
    else { s with ee := { s.ee with pending := true } }

/-- The parcel a search from a cursor finds: the lowest at or above it whose published state field is not
VACANT (R142). -/
def findParcel (s : State) (cursor : Nat) : Option ParcelNo :=
  (List.finRange 8).find? fun p =>
    decide (cursor ≤ p.val) && decide (s.parcels[p].published.state ≠ .vacant)

/-- The SUMMARY of a parcel found is loaded into slot 2 and the cursor set beyond it (R142, R143). -/
def loadSummary (p : ParcelNo) (pending : Bool) (s : State) : State :=
  loadSlot 2 ⟨.summary, summaryPayload s.sr.role p s.parcels[p]⟩
    { s with round := ⟨true, p.val + 1, pending⟩ }

/-- A round begins: the cursor at 0 and a search at once; a round that finds no parcel ends at once (R141,
R142). -/
def beginRound (s : State) : State :=
  match findParcel s 0 with
  | some p => loadSummary p false s
  | none => { s with round := ⟨false, 0, false⟩ }

/-- The search after a SUMMARY was sent: the next parcel, or the end of the round and the begin of a pending
one (R142). -/
def searchOn (s : State) : State :=
  match findParcel s s.round.cursor with
  | some p => loadSummary p s.round.pending s
  | none =>
    if s.round.pending then beginRound s
    else { s with round := { s.round with running := false } }

/-- A T1 zero at the summary round (R141). -/
def requestRound (s : State) : State :=
  if s.round.running then { s with round := { s.round with pending := true } } else beginRound s

/-- Whether the pending ANNOUNCE a load would replace carries a flag in a bit of its first byte (R196). -/
def replacedFlag (x : Slot) (bit : Nat) : Bool :=
  match x with
  | .pending f => (byteAt f.payload 0).getLsbD bit
  | _ => false

/-- A T3 zero makes an ANNOUNCE load (R196, R185): built with the flags as set or carried over, which are
then cleared; a load that finds a frame in flight is not taken and builds nothing. -/
def loadAnnounce (s : State) : State :=
  if takesLoad 3 s.slots[(3 : Fin 4)] then
    let withheld := s.aq.withheld || replacedFlag s.slots[(3 : Fin 4)] 5
    let overrun := s.ee.overrun || replacedFlag s.slots[(3 : Fin 4)] 6
    loadSlot 3 ⟨.announce, announcePayload s withheld overrun⟩
      { s with aq := { s.aq with withheld := false }, ee := { s.ee with overrun := false } }
  else s

/-- The zero of T0: a pass request, and a count event of T2 (R106, R158). -/
def zero0 (s : State) : State := zeroEvent 0 (fun t => countEvent 2 (requestPass t)) s

/-- The zero of T1: a summary round request, and a count event of T3 (R141, R158). -/
def zero1 (s : State) : State := zeroEvent 1 (fun t => countEvent 3 (requestRound t)) s

/-- The zero of T2: a freshness sweep (R166). -/
def zero2 (s : State) : State := zeroEvent 2 sweep s

/-- The zero of T3: an ANNOUNCE load (R196). -/
def zero3 (s : State) : State := zeroEvent 3 loadAnnounce s

/-! ### ESD alerts -/

/-- An ESD alert: value 1 at an assertion, 0 at a release (R198). -/
def esdAlert (value : Int) (s : State) : State := queueAlert .esd .nothing value s

/-- An owed ESD alert is queued and no longer owed (R200). -/
def queueOwed (s : State) : State :=
  if s.sr.esdOwed then esdAlert 1 { s with sr := { s.sr with esdOwed := false } } else s

/-! ### Accepted edges of the ESD input -/

/-- The milliseconds a raw ESD level must stand before it is accepted (R198). -/
def esdStable : Nat := 20

/-- Whether a level has differed from the accepted one, without interruption, for 20 ms (R198, log 19). -/
def StrapReset.stableAt (r : StrapReset) (level : EsdLevel) : Bool :=
  decide (r.esdRaw = level) && decide (r.esdLevel ≠ level) &&
    match r.esdTimer with
    | some n => decide (esdStable ≤ n)
    | none => false

/-- ESD enters the hold-cause set of every ACTIVE and HELD parcel at once (R94). -/
def holdForEsd (s : State) : State :=
  { s with parcels := mapPlaces s.parcels fun _ r => r.addHold fun h => { h with esd := true } }

/-- An assertion accepted (R94, R198). -/
def acceptAssertion (s : State) : State :=
  esdAlert 1 (holdForEsd { s with sr := { s.sr with esdLevel := .asserted, esdTimer := none } })

/-- A release accepted: no parcel changes at once (R95); an owed alert is no longer owed and no alert is
queued, else an alert of value 0 is (R198, R200). -/
def acceptRelease (s : State) : State :=
  if s.sr.esdOwed then
    { s with sr := { s.sr with esdLevel := .released, esdTimer := none, esdOwed := false } }
  else esdAlert 0 { s with sr := { s.sr with esdLevel := .released, esdTimer := none } }

/-- The raw ESD input has been asserted for 20 ms, so the assertion is accepted; before that there is no such act
(R198, log 3). -/
def assertEsd (s : State) : State := if s.sr.stableAt .asserted then acceptAssertion s else s

/-- The raw ESD input has been released for 20 ms, so the release is accepted; before that there is no such act
(R198, log 3). -/
def releaseEsd (s : State) : State := if s.sr.stableAt .released then acceptRelease s else s

/-! ### End of the stagger -/

/-- The acts of the stagger's end (R199). With an alert owed, the order of the arbiter's offer and the
queueing of the alert is a free value (log 4). -/
def endStagger (s : State) : State :=
  let t := startT3 { s with sr := { s.sr with stagger := .ended } }
  if t.sr.esdOwed then
    let u := { t with freeIndex := t.freeIndex + 1 }
    if Config.owedAlertBeforeOffer t.freeIndex then offer (queueOwed u) else queueOwed (offer u)
  else offer t

/-- The stagger has run for the node's address times 250 ms, so it ends; before that there is no such act (R199,
log 3). -/
def stopStagger (s : State) : State := if s.sr.stagger = .running 0 then endStagger s else s

/-! ### Owners told of a frame sent -/

/-- The alert queue told that its frame was sent: the head is removed and the next head loaded (R189). -/
def alertSent (s : State) : State :=
  match s.aq.records with
  | [] => s
  | _ :: [] => { s with aq := { s.aq with records := [] } }
  | _ :: next :: rest =>
    loadSlot 0 (alertFrame next) { s with aq := { s.aq with records := next :: rest } }

/-- The query queue told that a part was sent: the next part is loaded, or the query is removed and the next
one's build frozen (R191). -/
def answerSent (s : State) : State :=
  match s.qq.build with
  | none => s
  | some b =>
    match b.parts[b.next]? with
    | some part =>
      loadSlot 1 ⟨.answer, part⟩ { s with qq := { s.qq with build := some { b with next := b.next + 1 } } }
    | none => freezeHead { s with qq := ⟨s.qq.queries.tail, none⟩ }

/-- The owner of a slot told that its frame was sent (R184). -/
def ownerTold (i : Fin 4) (s : State) : State :=
  match i with
  | 0 => alertSent s
  | 1 => answerSent s
  | 2 => searchOn s
  | 3 => s

/-! ### What is due before a command -/

/-- The act of an owner that was told of a frame sent and has not acted yet (R184). -/
def settleOwner (s : State) : State :=
  match s.told with
  | some i => ownerTold i { s with told := none }
  | none => s

/-- Every zero that has fallen due, those that T0 and T1 bring to T2 and T3 among them (R158, R159). -/
def settleZeros (s : State) : State := zero3 (zero2 (zero1 (zero0 s)))

/-- Everything that time and counts have brought: the zeros, an edge of the ESD input that has stood for 20 ms
(R198), and the end of the stagger (R199). -/
def settleTimed (s : State) : State := stopStagger (releaseEsd (assertEsd (settleZeros s)))

/-- What has fallen due is taken before a command (log 2, log 21). -/
def settle (s : State) : State := settleTimed (settleOwner s)

end Sys2Proof.Machine
end

