-- ==== Sys2Proof/Machine/Bus.lean ====
section
/-! DEFINITION. The bus interface's commands: bad frames (R174), address clashes (R176, R179), the start bit
and the idle of the bus (R177, R182), and the ends of a frame the node drives (R177 to R184). -/

namespace Sys2Proof.Machine

/-! ### Received frames that reach no owner -/

/-- BAD_FRAME: discarded without effect at any owner (R174). A frame that the judgement finds good is no bad
frame, and the command leaves the node as it is (log 3). -/
def execBadFrame (r : RawFrame) (s : State) : Host.Outcome State Fault Refusal :=
  let t := settle s
  .next (if receives t && !isGood r then judged t else t)

/-- Whether a received frame is an address clash: good, and from the node's own address (R176). -/
def isClash (r : RawFrame) (s : State) : Bool := isGood r && decide (r.src.toNat = s.sr.address.val)

/-- ADDRESS_CLASH: MUTE is set at the act of judging the frame (R176, R180). A frame that makes no clash
leaves the node as it is (log 3). -/
def execAddressClash (r : RawFrame) (s : State) : Host.Outcome State Fault Refusal :=
  let t := settle s
  .next (if receives t && isClash r t then goMute (judged t) else t)

/-! ### The bus -/

/-- Another station's start bit on an idle bus ends the idle, and the node receives that frame (R177,
R182). -/
def startBit (s : State) : State :=
  if s.bi.tx = .idle ∧ s.bi.busIdle then { s with bi := { s.bi with busIdle := false, receiving := true } }
  else s

/-- START_BIT. -/
def execStartBit (s : State) : Host.Outcome State Fault Refusal := .next (startBit (settle s))

/-- The bus becomes idle, and the arbiter judges an offer (R172, R182). While the node drives a frame or
receives one begun, the frame has not ended and the bus is not idle (log 12). -/
def becomeIdle (s : State) : State :=
  if s.bi.tx = .idle ∧ s.bi.receiving = false then offer { s with bi := { s.bi with busIdle := true } } else s

/-- BUS_IDLE. An owner's act that waits comes after the idle and its offer (R182, R184, log 21). -/
def execBusIdle (s : State) : Host.Outcome State Fault Refusal :=
  .next (settleOwner (becomeIdle (settleTimed s)))

/-! ### The frame the node drives -/

/-- The frame in flight goes back to pending, unchanged (R183). -/
def returnFrame (s : State) : State := { s with slots := mapPlaces s.slots fun _ x => x.returned }

/-- Arbitration lost by a mismatch in the identifier (R177, R183). The bus is busy with the winner, whose
frame the receive side goes on receiving. -/
def loseArbitration (s : State) : State :=
  if s.bi.tx = .arbitrating then { returnFrame s with bi := { s.bi with tx := .idle, driven := none } } else s

/-- LOST_ARBITRATION. -/
def execLostArbitration (s : State) : Host.Outcome State Fault Refusal := .next (loseArbitration (settle s))

/-- The identifier complete: from ARBITRATING to SENDING (R178). -/
def completeIdentifier (s : State) : State :=
  if s.bi.tx = .arbitrating then { s with bi := { s.bi with tx := .sending } } else s

/-- IDENTIFIER_COMPLETE. -/
def execIdentifierComplete (s : State) : Host.Outcome State Fault Refusal :=
  .next (completeIdentifier (settle s))

/-- A mismatch after the identifier (R179). The frame is abandoned: it stays in its slot as it was built
(log 5), and MUTE is set. -/
def clashOnReadback (s : State) : State := if s.bi.tx = .sending then goMute (returnFrame s) else s

/-- READBACK_CLASH. -/
def execReadbackClash (s : State) : Host.Outcome State Fault Refusal := .next (clashOnReadback (settle s))

/-- A frame sent (R178, R184): in one act the transmit state is IDLE, the slot is emptied and its owner is told,
whose own act is the next to be taken (log 21). -/
def frameSent (s : State) : State :=
  let t := { s with bi := { s.bi with tx := .idle, receiving := false, driven := none } }
  match inFlightSlot s.slots with
  | some i => { emptySlot i t with told := some i }
  | none => t

/-- FRAME_SENT: the last end bit read back as driven (R178, R184). -/
def execFrameSent (s : State) : Host.Outcome State Fault Refusal :=
  let t := settle s
  .next (if t.bi.tx = .sending then frameSent t else t)

end Sys2Proof.Machine
end

