-- ==== Sys2Proof/Machine/Cadence.lean ====
section
/-! DEFINITION. The cadence timers' commands: the four zeros (R159), the CADENCE frames (R161 to R165) and the tick
of the 1 ms reference (R157, R197). -/

namespace Sys2Proof.Machine

/-! ### Zeros -/

/-- T0_ZERO, where it is due (log 2). -/
def execT0Zero (s : State) : Host.Outcome State Fault Refusal := .next (zero0 (settleOwner s))

/-- T1_ZERO, where it is due (log 2). -/
def execT1Zero (s : State) : Host.Outcome State Fault Refusal := .next (zero1 (settleOwner s))

/-- T2_ZERO, where it is due (log 2). -/
def execT2Zero (s : State) : Host.Outcome State Fault Refusal := .next (zero2 (settleOwner s))

/-- T3_ZERO, where it is due (log 2). -/
def execT3Zero (s : State) : Host.Outcome State Fault Refusal := .next (zero3 (settleOwner s))

/-! ### CADENCE frames -/

/-- A CADENCE frame at its timer: HALT (R162), NOW (R163), or neither (R164). -/
def Timer.cadence (t : Timer) (m : CadenceMsg) : Timer :=
  if m.halt then { t with run := .halted, pendingSet := some m.params }
  else if m.now then
    { t with
      params := m.params
      pendingSet := none
      count := m.params.constant
      phase := 0
      run := .running }
  else { t with pendingSet := some m.params, run := .running }

/-- The stale limit of a CADENCE frame for T2 in force at once, with the transitions that result; a field of
0 leaves it unchanged (R165, R169). -/
def changeLimit (limit : Nat) (s : State) : State :=
  if limit = 0 then s
  else withTransitions (fun t => { t with ct := { t.ct with staleLimit := limit } }) s

/-- A CADENCE frame reaches the cadence timers (R161): acted on when addressed to this node. A frame for T3
is remembered until reset (R156). -/
def takeCadence (p : List Byte) (_a : Station) (s : State) : State :=
  let m := decodeCadence p
  if m.target ≠ s.sr.address.val then s
  else
    let t := s.mapTimer m.timer (fun x => x.cadence m)
    let u := if m.timer = 3 then { t with ct := { t.ct with t3Set := true } } else t
    if m.timer = 2 then changeLimit m.staleLimit u else u

/-- CADENCE_HALT. The frame's own flags decide how it acts (R161). -/
def execCadenceHalt (f : Frame) (s : State) : Host.Outcome State Fault Refusal :=
  .next (receive .cadence f (takeCadence f.payload) (settle s))

/-- CADENCE_NOW. -/
def execCadenceNow (f : Frame) (s : State) : Host.Outcome State Fault Refusal :=
  .next (receive .cadence f (takeCadence f.payload) (settle s))

/-- CADENCE_RESUME. -/
def execCadenceResume (f : Frame) (s : State) : Host.Outcome State Fault Refusal :=
  .next (receive .cadence f (takeCadence f.payload) (settle s))

/-! ### The 1 ms reference -/

/-- The stagger one millisecond on (R199). -/
def Stagger.tick : Stagger → Stagger
  | .running left => .running (left - 1)
  | .ended => .ended

/-- A tick at the strap and reset logic: the millisecond clock (R197), the stagger (R199) and a running ESD
measurement (R198, log 19). -/
def StrapReset.tick (r : StrapReset) : StrapReset :=
  { r with
    clock := r.clock + 1
    stagger := r.stagger.tick
    esdTimer := r.esdTimer.map fun n => min (n + 1) esdStable }

/-- The strap and reset logic and the four timers take the same tick (R157, R197). -/
def tickAll (s : State) : State :=
  { s with
    sr := s.sr.tick
    ct := { s.ct with timers := mapPlaces s.ct.timers fun _ t => t.tick } }

/-- REFERENCE_TICK. -/
def execReferenceTick (s : State) : Host.Outcome State Fault Refusal :=
  .next (tickAll (settle s))

end Sys2Proof.Machine
end

