-- ==== Sys2Proof/Machine/Declarations.lean ====
section
/-! DEFINITION. Declarations and marks at arrival (Chapter 2, R25 to R34, R38; Chapter 5, R96), and the
commands DMETER, DPARCEL, DTANK, DROUTE and MARK. -/

namespace Sys2Proof.Machine

/-! ### The declaration unit's classing -/

/-- What becomes of an arriving declaration (2.2). -/
inductive Arrival where
  | stage
  | ignore
  | clash
  deriving DecidableEq, Repr

/-- The newest known copy: the staged copy, failing that the hand-over copy, failing that the current
declaration (R27). -/
def Decls.newestKnown {α : Type} (d : Decls α) : Option (Copy α) :=
  match d.staged with
  | some c => some c
  | none =>
    match d.handOver with
    | some c => some c
    | none => d.current

/-- Whether a revision is newer than one that may be held. -/
def newerThan {α : Type} (rev : Byte) (c : Option (Copy α)) : Bool :=
  match c with
  | some q => newer rev q.rev
  | none => true

/-- The class of an arriving declaration and what becomes of it: staged for an absent object (R28) or when
newer than every revision held (R30); ignored or a clash when equal to the newest known copy's (R31, R32);
ignored when older (R33). -/
def classify {α : Type} (same : α → α → Bool) (d : Decls α) (c : Copy α) : Arrival :=
  match d.newestKnown with
  | none => .stage
  | some known =>
    if newerThan c.rev d.current && newerThan c.rev d.handOver && newerThan c.rev d.staged then .stage
    else if c.rev = known.rev then (if same known.contents c.contents then .ignore else .clash)
    else .ignore

/-- Identical DMETER contents (R31). -/
def sameMeter (a b : MeterDecl) : Bool := (a.remove && b.remove) || decide (a = b)

/-- Identical DTANK contents (R31). -/
def sameTank (a b : TankDecl) : Bool := (a.remove && b.remove) || decide (a = b)

/-- Identical DPARCEL contents (R31). -/
def sameParcel (a b : ParcelDecl) : Bool := decide (a = b)

/-- Identical DROUTE contents, the literals compared as a list in the order given (R31). -/
def sameTerm (a b : TermDecl) : Bool := decide (a = b)

/-- A declaration state with a copy staged, in place of any earlier staged copy (R30). -/
def Decls.stage {α : Type} (d : Decls α) (c : Copy α) : Decls α := { d with staged := some c }

/-- A staged-only record's declaration state (R28). -/
def Decls.stagedOnly {α : Type} (c : Copy α) : Decls α := ⟨none, some c, none⟩

/-- The capacity of the meter table (R29). -/
def maxMeters : Nat := 12

/-- The capacity of the tank table (R29). -/
def maxTanks : Nat := 48

/-- A DMETER reaches the declaration unit (R25, R27 to R33). -/
def arriveMeter (p : List Byte) (_a : Station) (s : State) : State :=
  let m := decodeDMeter p
  match m.key with
  | none => s
  | some k =>
    match s.meter? k with
    | none =>
      if m.copy.contents.remove then s
      else if maxMeters ≤ s.meters.length then planReject (.meter k) m.copy.rev .tableFull s
      else s.putMeter ⟨k, Decls.stagedOnly m.copy, none⟩
    | some r =>
      match classify sameMeter r.decl m.copy with
      | .stage => s.putMeter { r with decl := r.decl.stage m.copy }
      | .ignore => s
      | .clash => planClash (.meter k) m.copy.rev s

/-- A DTANK reaches the declaration unit (R25, R27 to R33). -/
def arriveTank (p : List Byte) (_a : Station) (s : State) : State :=
  let m := decodeDTank p
  match m.key with
  | none => s
  | some k =>
    match s.tank? k with
    | none =>
      if m.copy.contents.remove then s
      else if maxTanks ≤ s.tanks.length then planReject (.tank k) m.copy.rev .tableFull s
      else s.putTank ⟨k, Decls.stagedOnly m.copy, none⟩
    | some r =>
      match classify sameTank r.decl m.copy with
      | .stage => s.putTank { r with decl := r.decl.stage m.copy }
      | .ignore => s
      | .clash => planClash (.tank k) m.copy.rev s

/-- A DPARCEL reaches the declaration unit (R25, R27 to R33). -/
def arriveParcel (p : List Byte) (_a : Station) (s : State) : State :=
  let m := decodeDParcel p
  match m.key with
  | none => s
  | some q =>
    match classify sameParcel s.parcels[q].decl m.copy with
    | .stage => s.putParcel q { s.parcels[q] with decl := s.parcels[q].decl.stage m.copy }
    | .ignore => s
    | .clash => planClash (.parcel q) m.copy.rev s

/-- A DROUTE reaches the declaration unit (R25, R27 to R33). -/
def arriveTerm (p : List Byte) (_a : Station) (s : State) : State :=
  let m := decodeDRoute p
  match m.key with
  | none => s
  | some t =>
    match classify sameTerm s.terms[t].decl m.copy with
    | .stage => s.putTerm t { s.terms[t] with decl := s.terms[t].decl.stage m.copy }
    | .ignore => s
    | .clash => planClash (.term t) m.copy.rev s

/-- A MARK reaches the parcel table (R96): it replaces the pending mark, and a mark code that names none is
ignored. -/
def arriveMark (p : List Byte) (_a : Station) (s : State) : State :=
  let m := decodeMark p
  match m.kind with
  | none => s
  | some k => s.putParcel m.parcel { s.parcels[m.parcel] with pendingMark := some ⟨k, m.expected⟩ }

/-! ### The commands -/

/-- DMETER. -/
def execDmeter (f : Frame) (s : State) : Host.Outcome State Fault Refusal :=
  .next (receive .dmeter f (arriveMeter f.payload) (settle s))

/-- DPARCEL. -/
def execDparcel (f : Frame) (s : State) : Host.Outcome State Fault Refusal :=
  .next (receive .dparcel f (arriveParcel f.payload) (settle s))

/-- DTANK. -/
def execDtank (f : Frame) (s : State) : Host.Outcome State Fault Refusal :=
  .next (receive .dtank f (arriveTank f.payload) (settle s))

/-- DROUTE. -/
def execDroute (f : Frame) (s : State) : Host.Outcome State Fault Refusal :=
  .next (receive .droute f (arriveTerm f.payload) (settle s))

/-- MARK. -/
def execMark (f : Frame) (s : State) : Host.Outcome State Fault Refusal :=
  .next (receive .mark f (arriveMark f.payload) (settle s))

end Sys2Proof.Machine
end

