-- ==== Sys2Proof/Machine/Lines.lean ====
section
/-! DEFINITION. The strap and reset logic's commands: the two resets (R197), the changes of the ESD input and its
accepted edges (R198), and the end of the stagger (R199). -/

namespace Sys2Proof.Machine

/-! ### Resets -/

/-- The node at reset end (R197). At address 0 the stagger has ended: T3 runs and an owed ESD alert is
queued at reset end (R156, R200). The commands that wait and the number of the next free value are the
model's own, and are kept. -/
def resetNode (address : Fin 27) (role : Role) (rate : BusRate) (esd : EsdLevel) (s : State) : State :=
  let t := State.atResetEnd address role rate esd s.freeIndex s.pending
  if t.sr.stagger = .ended then queueOwed t else t

/-- POWER_ON_RESET: the straps are sampled, then and only then (R197). -/
def execPowerOnReset (straps : Straps) (esd : EsdLevel) (s : State) : Host.Outcome State Fault Refusal :=
  .next (resetNode (strapAddress straps) (strapRole straps) (strapRate straps) esd s)

/-- RESET_N: address, role and rate stay as the last power-on left them (R197). -/
def execResetN (esd : EsdLevel) (s : State) : Host.Outcome State Fault Refusal :=
  .next (resetNode s.sr.address s.sr.role s.sr.rate esd s)

/-! ### ESD input -/

/-- The raw level after a change: a level that differs from the accepted one starts a measurement, a return
to the accepted one discards it (R198). -/
def StrapReset.rawChange (r : StrapReset) (level : EsdLevel) : StrapReset :=
  if level = r.esdRaw then r
  else { r with esdRaw := level, esdTimer := if level = r.esdLevel then none else some 0 }

/-- The raw ESD input changes to a level (R198). -/
def changeEsdInput (level : EsdLevel) (s : State) : State := { s with sr := s.sr.rawChange level }

/-- ESD_INPUT_CHANGE. -/
def execEsdInputChange (level : EsdLevel) (s : State) : Host.Outcome State Fault Refusal :=
  .next (changeEsdInput level (settle s))

/-- ESD_ASSERTION_ACCEPTED, where it is due (R94, log 2). -/
def execEsdAssertionAccepted (s : State) : Host.Outcome State Fault Refusal := .next (assertEsd (settleOwner s))

/-- ESD_RELEASE_ACCEPTED, where it is due (R95, log 2). -/
def execEsdReleaseAccepted (s : State) : Host.Outcome State Fault Refusal := .next (releaseEsd (settleOwner s))

/-! ### End of the stagger -/

/-- STAGGER_END, where it is due (R199, log 2). -/
def execStaggerEnd (s : State) : Host.Outcome State Fault Refusal := .next (stopStagger (settleOwner s))

end Sys2Proof.Machine
end

