-- ==== Sys2Proof/Machine/Stages.lean ====
section
/-! DEFINITION. Stages 2 to 5, 7 and 8 of a pass: the snapshot (R111), the hold causes (R91), the tank
volumes (R53, R54), the meter flow (R73 to R80), the figures with the tolerance step (R115, R124 to R131)
and the publication (R104, R116, R108). -/

namespace Sys2Proof.Machine

/-! ### Stage 2: the snapshot -/

/-- The tank table's part of the snapshot (R52). -/
def snapTanks (s : State) : List TankSnap :=
  s.tanks.filterMap fun r => r.work.map fun w => ⟨r.key, w.side, w.parcel, w.reading, w.gaugeInvalid⟩

/-- The meter table's part of the snapshot (R65). -/
def snapMeters (s : State) : List MeterSnap :=
  s.meters.filterMap fun r => r.work.map fun w => ⟨r.key, w.factor, w.reading⟩

/-- The valve table's part of the snapshot (R68). -/
def snapValves (s : State) : List ValveSnap := s.valves.map fun e => ⟨e.station, e.states, e.lastSeq.isSome⟩

/-- The snapshot (R111). -/
def takeSnapshot (s : State) : Snapshot :=
  { tanks := snapTanks s
    meters := snapMeters s
    valves := snapValves s
    stale := Vector.ofFn fun a : Station => isStale s a }

/-! ### Stage 3: hold causes -/

/-- Stage 3 for one parcel: its hold-cause set recomputed, and ACTIVE and HELD following (R91, R113). -/
def recomputeHold (n : Snapshot) (s : State) (p : ParcelNo) : State :=
  if s.parcels[p].state.working then
    s.putParcel p (s.parcels[p].withHolds (recomputedHolds s n.stale p))
  else s

/-! ### Stage 4: tank volumes -/

/-- The α of a parcel whose tanks stage 4 computes; none for a parcel in VACANT or CLOSED (R53). -/
def computingAlpha (s : State) (p : ParcelNo) : Option Nat :=
  if s.parcels[p].state.computesTanks then s.parcels[p].alpha else none

/-- A tank whose standard volume is computed from its snapshot reading; the clamp flags stay set (R53, R54). -/
def TankWork.computed (w : TankWork) (alpha : Nat) (r : GaugeReading) : TankWork :=
  { w with
    current := some (standardVolume alpha r)
    tempClamped := w.tempClamped || (ctl5 alpha r.temp).limited
    volumeClamped := w.volumeClamped || (clampVolume r.volume).limited }

/-- Stage 4 for one tank (R53): a tank of a CLOSED parcel keeps its volume, one of a working parcel with a
snapshot reading is computed, and any other holds none. -/
def tankVolume (n : Snapshot) (s : State) (r : TankRec) : TankRec :=
  match r.work, n.tank? r.key with
  | some w, some e =>
    match w.parcel with
    | none => { r with work := some { w with current := none } }
    | some p =>
      if s.parcels[p].state = .closed then r
      else
        match computingAlpha s p, e.reading with
        | some alpha, some reading => { r with work := some (w.computed alpha reading) }
        | _, _ => { r with work := some { w with current := none } }
  | _, _ => r

/-- Stage 4 for the tank of a snapshot entry (R53, R113). -/
def computeVolume (n : Snapshot) (s : State) (e : TankSnap) : State :=
  (s.tank? e.key).elim s fun r => s.putTank (tankVolume n s r)

/-! ### Stage 5: meter flow -/

/-- The greatest value an accumulator holds (R78). -/
def maxAccumulator : Nat := 4294967295

/-- An addition to an accumulator (R78). -/
def accumulate (a d : Nat) : Nat := min (a + d) maxAccumulator

/-- The indicated litres between two UNROUTED alerts (R79). -/
def noticeStep : Nat := 1000

/-- A meter's working fields replaced in its record. -/
def putWork (r : MeterRec) (w : MeterWork) (s : State) : State := s.putMeter { r with work := some w }

/-- Classes that credit nothing and consume nothing (R73): the baseline as given, DEFERRED cleared. -/
def MeterWork.settled (w : MeterWork) (baseline : Option (BitVec 24)) : MeterWork :=
  { w with baseline := baseline, deferred := false }

/-- A totalizer break (R74). -/
def meterBreak (r : MeterRec) (w : MeterWork) (cum : BitVec 24) (delta : Nat) (s : State) : State :=
  queueAlert .totalizerBreak (.meter r.key) (delta : Int)
    (putWork r { w with baseline := some cum, breakSeen := true, deferred := false } s)

/-- METER-STALE enters the set of every ACTIVE or HELD parcel of basis METER that a term of a deferred meter
names (R75). -/
def holdDeferred (terms : List Term) (s : State) : State :=
  { s with
    parcels := mapPlaces s.parcels fun p r =>
      if terms.any (fun t => decide (t.parcel = p)) && decide (r.basis? = some .meter) then
        r.addHold fun h => { h with meterStale := true }
      else r }

/-- A deferred meter (R75). -/
def meterDefer (r : MeterRec) (w : MeterWork) (terms : List Term) (s : State) : State :=
  holdDeferred terms (putWork r { w with deferred := true } s)

/-- A flow credited to UNROUTED (R79): an alert for each whole step of 1,000 litres since the last notice. -/
def creditUnrouted (r : MeterRec) (w : MeterWork) (cum : BitVec 24) (delta : Nat) (s : State) : State :=
  let total := accumulate w.unrouted delta
  let since := w.sinceNotice + delta
  queueAlertTimes .unrouted (.meter r.key) (min (total : Int) satLimit) (since / noticeStep)
    (putWork r
      { w with baseline := some cum, deferred := false, unrouted := total, sinceNotice := since % noticeStep } s)

/-- The sum of 2^p over some parcels (R80, R131). -/
def parcelSet (l : List ParcelNo) : Nat := (l.map fun p => 2 ^ p.val).sum

/-- A flow credited to CONFLICT (R80). -/
def creditConflict (r : MeterRec) (w : MeterWork) (cum : BitVec 24) (delta : Nat) (named : List ParcelNo)
    (s : State) : State :=
  queueAlert .routeConflict (.meter r.key) (parcelSet named : Int)
    (putWork r { w with baseline := some cum, deferred := false, conflict := accumulate w.conflict delta } s)

/-- The residue brought in: the meter's, or 0 where the last credited parcel is another or none (R77). -/
def residueIn (w : MeterWork) (p : ParcelNo) : Nat := if w.lastCredited = some p then w.residue else 0

/-- A flow credited to a parcel (R77, R17): the increment into the parcel's running meter total, the delta
into ROUTED. -/
def creditParcel (r : MeterRec) (w : MeterWork) (reading : MeterReading) (factor delta : Nat) (p : ParcelNo)
    (s : State) : State :=
  let ctl := ctl5 (s.parcels[p].alpha.getD 0) reading.temp
  let inc := meterIncrement delta factor ctl.value (residueIn w p)
  let total := saturate (s.parcels[p].meterTotal + (inc.1 : Int))
  (putWork r
    { w with
      baseline := some reading.cumulative
      deferred := false
      routed := accumulate w.routed delta
      residue := inc.2
      lastCredited := some p
      tempClamped := ctl.limited } s).putParcel p
    { s.parcels[p] with
      meterTotal := total.value
      saturation := s.parcels[p].saturation || total.limited }

/-- The parcels some terms name, in ascending number (R76). -/
def parcelsNamed (terms : List Term) : List ParcelNo :=
  (List.finRange 8).filter fun p => terms.any fun t => decide (t.parcel = p)

/-- The attribution of a flow that is not deferred, by the parcels its true terms name (R76). -/
def attributeFlow (r : MeterRec) (w : MeterWork) (reading : MeterReading) (factor delta : Nat)
    (named : List ParcelNo) (s : State) : State :=
  match named with
  | [] => creditUnrouted r w reading.cumulative delta s
  | [p] =>
    if s.parcels[p].state.working then creditParcel r w reading factor delta p s
    else creditUnrouted r w reading.cumulative delta s
  | _ => creditConflict r w reading.cumulative delta named s

/-- One meter at stage 5, classified from its snapshot reading and its consumed baseline (R73). -/
def consume (n : Snapshot) (r : MeterRec) (w : MeterWork) (e : MeterSnap) (s : State) : State :=
  match e.reading, w.baseline with
  | none, _ => putWork r (w.settled w.baseline) s
  | some reading, none => putWork r (w.settled (some reading.cumulative)) s
  | some reading, some baseline =>
    let delta := indicatedDelta reading.cumulative baseline
    let terms := termsOfMeter s r.key
    if delta = 0 then putWork r (w.settled w.baseline) s
    else if largestFlow < delta then meterBreak r w reading.cumulative delta s
    else if n.defers terms then meterDefer r w terms s
    else attributeFlow r w reading e.factor delta (parcelsNamed (terms.filter n.termTrue)) s

/-- Stage 5 for the meter of a snapshot entry. -/
def consumeMeter (n : Snapshot) (s : State) (e : MeterSnap) : State :=
  match s.meter? e.key with
  | none => s
  | some r =>
    match r.work with
    | none => s
    | some w => consume n r w e s

/-! ### Stage 7: figures and the tolerance step -/

/-- A tank's contribution to the figure of its side (R15, R16): opening minus current where cargo leaves that
side, current minus opening where it arrives. -/
def contribution (direction : Direction) (side : Side) (w : TankWork) : Int :=
  match w.opening, w.current with
  | some o, some c =>
    if w.side = side then
      match direction, side with
      | .discharge, .ship => (o : Int) - c
      | .load, .ship => (c : Int) - o
      | .load, .shore => (o : Int) - c
      | .discharge, .shore => (c : Int) - o
    else 0
  | _, _ => 0

/-- The exact sum of the contributions of one side's tanks (R15, R16). -/
def sideSum (s : State) (p : ParcelNo) (direction : Direction) (side : Side) : Int :=
  ((assignedTanks s p).map fun e => contribution direction side e.2).sum

/-- The count after a tolerance step (R125). -/
def steppedCount (excursive : Bool) (count depth : Nat) : Nat :=
  if excursive then min (count + 1) depth else 0

/-- Whether a step latches: it raises the count from depth − 1 to depth and the latch is clear (R126). -/
def latches (excursive : Bool) (count depth : Nat) (latch : Bool) : Bool :=
  excursive && decide (count + 1 = depth) && !latch

/-- A parcel's effective option (R129). -/
def ParcelRec.option (role : Role) (r : ParcelRec) : Fin 4 :=
  match r.decl.current with
  | some c => effectiveOption role c.contents.option
  | none => 0

/-- The parcels with the EXCURSION latch set and effective option 3 (R131). -/
def advisedParcels (s : State) : List ParcelNo :=
  (List.finRange 8).filter fun p =>
    s.parcels[p].excursion && decide (s.parcels[p].option s.sr.role = 3)

/-- The effective option carried out at latching (R129 to R131). -/
def carryOut (p : ParcelNo) (d : Int) (s : State) : State :=
  match s.parcels[p].option s.sr.role with
  | 0 => s
  | 1 => s.putParcel p (s.parcels[p].addHold fun h => { h with excursionHold := true })
  | 2 => queueAlert .stopAdvise (.parcel p) d s
  | 3 => queueAlert .stopAdvise .all (parcelSet (advisedParcels s) : Int) s

/-- The latching of a parcel: the latch, the EXCURSION alert, the option, in this order (R126). ALERT_N
follows the latch (R135). -/
def latch (p : ParcelNo) (d : Int) (s : State) : State :=
  carryOut p d (queueAlert .excursion (.parcel p) d
    (driveAlertN (s.putParcel p { s.parcels[p] with excursion := true })))

/-- The tolerance step of an evaluated parcel (R124 to R127). -/
def toleranceStep (p : ParcelNo) (excursive : Bool) (d : Int) (s : State) : State :=
  let r := s.parcels[p]
  let stepped := s.putParcel p { r with count := steppedCount excursive r.count r.depth }
  if latches excursive r.count r.depth r.excursion then latch p d stepped else stepped

/-- The close of a parcel with the D it closes with (R100, R101). -/
def closeParcel (p : ParcelNo) (d : Int) (whileHeld : Bool) (s : State) : State :=
  queueAlert .parcelClosed (.parcel p) d
    (s.putParcel p
      { s.parcels[p] with
        state := .closed
        closing := false
        holds := HoldSet.empty
        closedWhileHeld := s.parcels[p].closedWhileHeld || whileHeld })

/-- An evaluated set held by the engine until stage 8 (R115). -/
def keepEvaluated (p : ParcelNo) (f : Figures) (s : State) : State :=
  { s with ee := { s.ee with evaluated := setPlace s.ee.evaluated p (some f) } }

/-- The evaluation of a parcel from its tanks and its running meter total (R24, R115). -/
def evaluation (s : State) (p : ParcelNo) (d : ParcelDecl) : Evaluation :=
  evaluate d (sideSum s p d.direction .ship) (sideSum s p d.direction .shore) s.parcels[p].meterTotal
    s.parcels[p].saturation

/-- Stage 7 for an ACTIVE parcel: its figure set, its saturation indication (R19), the tolerance step, and
its close where the closing flag is set (R100, R115). -/
def evaluateActive (p : ParcelNo) (d : ParcelDecl) (s : State) : State :=
  let ev := evaluation s p d
  let marked := s.putParcel p { s.parcels[p] with saturation := ev.figures.saturated }
  let stepped := toleranceStep p ev.excursive ev.figures.d (keepEvaluated p ev.figures marked)
  if s.parcels[p].closing then closeParcel p ev.figures.d false stepped else stepped

/-- Stage 7 for one parcel (R115). -/
def evaluateParcel (s : State) (p : ParcelNo) : State :=
  match s.parcels[p].state, s.parcels[p].decl.current with
  | .active, some c => evaluateActive p c.contents s
  | .held, _ =>
    if s.parcels[p].closing then closeParcel p s.parcels[p].published.figures.d true s else s
  | _, _ => s

/-! ### Stage 8: publication -/

/-- The published set of a parcel at publication (R104). -/
def ParcelRec.publishing (r : ParcelRec) (evaluated : Option Figures) : Published :=
  { figures := evaluated.getD r.published.figures
    state := r.state
    closedWhileHeld := r.closedWhileHeld }

/-- The publication of all eight parcels in one act (R104, R116). -/
def publishAll (s : State) : State :=
  { s with
    parcels := mapPlaces s.parcels fun p r => { r with published := r.publishing s.ee.evaluated[p] } }

/-- The end of a pass: the snapshot and the evaluated sets are discarded (R108, R116). -/
def discardPass (s : State) : State :=
  { s with ee := { s.ee with snapshot := none, evaluated := Vector.replicate 8 none } }

end Sys2Proof.Machine
end

