-- ==== Sys2Proof/Machine/Marks.lean ====
section
/-! DEFINITION. Stage 6: the marks in hand (R97 to R103, R114), with what an OPEN and a RELEASE do to the
tanks (R55, R56), meters (R82) and peer entries (R153). -/

namespace Sys2Proof.Machine

/-! ### OPEN -/

/-- The reasons an OPEN is refused for (R97, R98). -/
inductive OpenReason where
  | revision
  | state
  | esd
  | noShipTank
  | noShoreTank
  | noTerm
  | tankStale
  | gaugeInvalid
  deriving DecidableEq, Repr

/-- A reason's code (R98). -/
def openCode : OpenReason → Nat
  | .revision => 1
  | .state => 2
  | .esd => 3
  | .noShipTank => 4
  | .noShoreTank => 5
  | .noTerm => 6
  | .tankStale => 7
  | .gaugeInvalid => 8

/-- Whether a tank has GAUGE-INVALID set in the snapshot (R98, check 7). A tank that the snapshot lacks holds
no reading it could be opened on. -/
def snapInvalid (n : Snapshot) (k : Key) : Bool :=
  match n.tank? k with
  | some e => e.gaugeInvalid
  | none => true

/-- The checks of an OPEN, in order; the first that fails decides (R98). -/
def openRefusal (n : Snapshot) (s : State) (p : ParcelNo) : Option OpenReason :=
  let r := s.parcels[p]
  let tanks := assignedTanks s p
  if r.state ≠ .declared then some .state
  else if esdAsserted s then some .esd
  else if !tanks.any (fun e => decide (e.2.side = .ship)) then some .noShipTank
  else if decide (r.basis? = some .tank) && !tanks.any (fun e => decide (e.2.side = .shore)) then
    some .noShoreTank
  else if decide (r.basis? = some .meter) && (termsOfParcel s p).isEmpty then some .noTerm
  else if tanks.any (fun e => n.stale[e.1.station]) then some .tankStale
  else if tanks.any (fun e => snapInvalid n e.1) then some .gaugeInvalid
  else none

/-- An OPEN-REFUSED alert: expected revision plus 256 times the reason code (R97, R98). -/
def refuseOpen (p : ParcelNo) (expected : Byte) (why : OpenReason) (s : State) : State :=
  queueAlert .openRefused (.parcel p) ((expected.toNat + 256 * openCode why : Nat) : Int) s

/-- The working fields of every tank assigned to a parcel changed. -/
def mapAssigned (p : ParcelNo) (f : TankWork → TankWork) (s : State) : State :=
  { s with
    tanks := s.tanks.map fun r =>
      { r with work := r.work.map fun w => if w.parcel = some p then f w else w } }

/-- A tank takes its current standard volume as its opening standard volume, and REBASED is cleared (R55). -/
def TankWork.opened (w : TankWork) : TankWork := { w with opening := w.current, rebased := false }

/-- The opening figure set: all figures 0, band equal to the floor times 100 (R99). -/
def openingFigures (floor : Nat) : Figures := { Figures.reset with band := floor * 100 }

/-- A parcel's declared floor, with a current declaration. -/
def ParcelRec.floor (r : ParcelRec) : Nat :=
  match r.decl.current with
  | some c => c.contents.floor
  | none => 0

/-- The record of a parcel that opens (R99). -/
def ParcelRec.openedNow (r : ParcelRec) : ParcelRec :=
  { r with
    state := .active
    holds := HoldSet.empty
    meterTotal := 0
    saturation := false
    count := 0
    closedWhileHeld := false
    published :=
      { r.published with figures := openingFigures r.floor, closedWhileHeld := false } }

/-- A successful OPEN, in one act (R99). -/
def openNow (p : ParcelNo) (s : State) : State :=
  mapAssigned p TankWork.opened (s.putParcel p s.parcels[p].openedNow)

/-- An OPEN that passes the revision check (R98, R99). -/
def applyOpen (n : Snapshot) (p : ParcelNo) (expected : Byte) (s : State) : State :=
  match openRefusal n s p with
  | some why => refuseOpen p expected why s
  | none => openNow p s

/-! ### CLOSE -/

/-- A CLOSE that passes the revision check (R100, R101). -/
def applyClose (p : ParcelNo) (expected : Byte) (s : State) : State :=
  match s.parcels[p].state with
  | .active => s.putParcel p { s.parcels[p] with closing := true }
  | .held => closeParcel p s.parcels[p].published.figures.d true s
  | _ => planReject (.parcel p) expected .markState s

/-! ### RELEASE -/

/-- A tank of a released parcel (R56). -/
def TankWork.released (w : TankWork) : TankWork :=
  { w with
    parcel := none
    current := none
    opening := none
    volumeClamped := false
    tempClamped := false
    rebased := false }

/-- A meter whose last credited parcel is released has it made absent; its residue is kept (R82). -/
def MeterWork.uncredited (p : ParcelNo) (w : MeterWork) : MeterWork :=
  if w.lastCredited = some p then { w with lastCredited := none } else w

/-- The record of a parcel that is released (R103). The state field of its published set follows at the
next publication (R104). -/
def ParcelRec.releasedNow (r : ParcelRec) : ParcelRec :=
  { r with
    state := .vacant
    holds := HoldSet.empty
    closing := false
    meterTotal := 0
    saturation := false
    count := 0
    excursion := false
    peerDiverge := false
    closedWhileHeld := false
    published := { Published.reset with state := r.published.state } }

/-- A RELEASE applied to a CLOSED or DECLARED parcel, in one act (R103, R56, R82, R153); ALERT_N follows the
cleared latches (R133). -/
def releaseNow (p : ParcelNo) (s : State) : State :=
  let s1 := mapAssigned p TankWork.released (s.putParcel p s.parcels[p].releasedNow)
  driveAlertN
    { s1 with
      meters := s1.meters.map fun r => { r with work := r.work.map (MeterWork.uncredited p) }
      peers := s1.peers.filter fun e => decide (e.parcel ≠ p) }

/-- A RELEASE that passes the revision check (R103). -/
def applyRelease (p : ParcelNo) (expected : Byte) (s : State) : State :=
  match s.parcels[p].state with
  | .closed => releaseNow p s
  | .declared => releaseNow p s
  | .vacant => s
  | _ => planReject (.parcel p) expected .markState s

/-! ### Stage 6 -/

/-- A mark refused for its expected revision (R97). -/
def refuseRevision (p : ParcelNo) (m : Mark) (s : State) : State :=
  match m.kind with
  | .openParcel => refuseOpen p m.expected .revision s
  | _ => planReject (.parcel p) m.expected .markRevision s

/-- A mark that passes the revision check, judged by its kind (R98 to R103). -/
def applyKind (n : Snapshot) (p : ParcelNo) (m : Mark) (s : State) : State :=
  match m.kind with
  | .openParcel => applyOpen n p m.expected s
  | .closeParcel => applyClose p m.expected s
  | .releaseParcel => applyRelease p m.expected s

/-- A parcel's current revision. -/
def ParcelRec.revision? (r : ParcelRec) : Option Byte := r.decl.current.map (·.rev)

/-- Stage 6 for one parcel: its mark in hand is gone, applied or refused (R97, R114). -/
def applyMark (n : Snapshot) (s : State) (p : ParcelNo) : State :=
  match s.parcels[p].inHand with
  | none => s
  | some m =>
    let t := s.putParcel p { s.parcels[p] with inHand := none }
    if s.parcels[p].revision? = some m.expected then applyKind n p m t else refuseRevision p m t

end Sys2Proof.Machine
end

