-- ==== Sys2Proof/Machine/Pass.lean ====
section
/-! DEFINITION. The commands of the evaluation pass: its eight stages, each carried out when the running pass
has reached it (R109). Six stages deal with one record after another, each in an act of its own, between
which other events may be taken (R109, R119, R121, R124): one command carries such a stage on by one record,
and the command comes again until the stage has ended (log 10). The snapshot and the publication are one act
each. A stage's command that the running pass has not reached is no event of the node and leaves it as it is
(log 3). -/

namespace Sys2Proof.Machine

/-- The work of a stage when the running pass has reached it. -/
def atStage (g : Stage) (work : State → State) (s : State) : State :=
  if s.ee.pass = .running g then work s else s

/-- The running pass goes on to a stage, none of whose records is dealt with yet. -/
def toStage (g : Stage) (s : State) : State :=
  { s with ee := { s.ee with pass := .running g, visited := 0 } }

/-- The work of a stage that reads the snapshot (R111). -/
def withSnapshot (work : Snapshot → State → State) (s : State) : State :=
  match s.ee.snapshot with
  | some n => work n s
  | none => s

/-- A stage carried on by one record (R109): the first of those it has still to deal with, in an act of its own.
With the last of them dealt with, or with none to deal with, the pass goes on to the next stage (R113,
log 10). -/
def dealNext {α : Type} (next : Stage) (left : State → List α) (act : State → α → State) (s : State) : State :=
  match left s with
  | [] => toStage next s
  | x :: _ => if (left (act s x)).isEmpty then toStage next (act s x) else act s x

/-- The place in its records that a stage has reached. -/
def reach (n : Nat) (s : State) : State := { s with ee := { s.ee with visited := n } }

/-- The parcels that a stage in ascending parcel number has still to deal with, out of those it does not pass
over (R113, R115). -/
def parcelsLeft (takes : ParcelRec → Bool) (s : State) : List ParcelNo :=
  (List.finRange 8).filter fun p => decide (s.ee.visited ≤ p.val) && takes s.parcels[p]

/-- A parcel dealt with by a stage in ascending parcel number. -/
def dealParcel (act : State → ParcelNo → State) (s : State) (p : ParcelNo) : State := reach (p.val + 1) (act s p)

/-- A snapshot entry dealt with by a stage in the snapshot's order. -/
def dealEntry {α : Type} (act : State → α → State) (s : State) (e : α) : State :=
  reach (s.ee.visited + 1) (act s e)

/-- Whether stage 7 has anything to do for a parcel: it is ACTIVE, or HELD with its closing flag set (R115). -/
def ParcelRec.evaluates (r : ParcelRec) : Bool :=
  decide (r.state = .active) || (decide (r.state = .held) && r.closing)

/-- Stage 1, by one hand-over copy (R35). -/
def offerCopy (s : State) : State := dealNext .snapshot offersLeft decideOffer s

/-- Stage 2 (R111). -/
def fillSnapshot (s : State) : State :=
  toStage .holdCauses { s with ee := { s.ee with snapshot := some (takeSnapshot s) } }

/-- Stage 3, by one parcel in ACTIVE or HELD (R91, R113). No rule names the order of its parcels; ascending parcel
number is the model's choice (log 25). -/
def recomputeNext (n : Snapshot) (s : State) : State :=
  dealNext .tankVolumes (parcelsLeft (·.state.working)) (dealParcel (recomputeHold n)) s

/-- Stage 4, by one tank of the snapshot (R53, R113). No rule names the order of its tanks; ascending key order is the
model's choice (log 25). -/
def computeNext (n : Snapshot) (s : State) : State :=
  dealNext .meterFlow (fun t => n.tanks.drop t.ee.visited) (dealEntry (computeVolume n)) s

/-- Stage 5, by one meter of the snapshot, in ascending key order (R73, R113). -/
def consumeNext (n : Snapshot) (s : State) : State :=
  dealNext .marks (fun t => n.meters.drop t.ee.visited) (dealEntry (consumeMeter n)) s

/-- Stage 6, by one mark in hand, in ascending parcel number (R97, R114). -/
def markNext (n : Snapshot) (s : State) : State :=
  dealNext .figures (parcelsLeft (·.inHand.isSome)) (dealParcel (applyMark n)) s

/-- Stage 7, by one parcel, in ascending parcel number (R115, R124). -/
def evaluateNext (s : State) : State :=
  dealNext .publication (parcelsLeft ParcelRec.evaluates) (dealParcel evaluateParcel) s

/-- The completion of a pass (R108): the signal to T1, then a pending pass or IDLE. -/
def completePass (s : State) : State :=
  let t := countEvent 1 (discardPass s)
  if t.ee.pending then beginPass { t with ee := { t.ee with pending := false } }
  else { t with ee := { t.ee with pass := .idle, visited := 0 } }

/-! ### The commands -/

/-- HAND_OVER: stage 1. -/
def execHandOver (s : State) : Host.Outcome State Fault Refusal := .next (atStage .handOver offerCopy (settle s))

/-- SNAPSHOT: stage 2. -/
def execSnapshot (s : State) : Host.Outcome State Fault Refusal :=
  .next (atStage .snapshot fillSnapshot (settle s))

/-- HOLD_CAUSE_RECOMPUTATION: stage 3. -/
def execHoldCauseRecomputation (s : State) : Host.Outcome State Fault Refusal :=
  .next (atStage .holdCauses (withSnapshot recomputeNext) (settle s))

/-- STANDARD_VOLUME_COMPUTATION: stage 4. -/
def execStandardVolumeComputation (s : State) : Host.Outcome State Fault Refusal :=
  .next (atStage .tankVolumes (withSnapshot computeNext) (settle s))

/-- METER_CONSUMPTION: stage 5. -/
def execMeterConsumption (s : State) : Host.Outcome State Fault Refusal :=
  .next (atStage .meterFlow (withSnapshot consumeNext) (settle s))

/-- MARK_APPLICATION: stage 6. -/
def execMarkApplication (s : State) : Host.Outcome State Fault Refusal :=
  .next (atStage .marks (withSnapshot markNext) (settle s))

/-- FIGURE_EVALUATION: stage 7. -/
def execFigureEvaluation (s : State) : Host.Outcome State Fault Refusal :=
  .next (atStage .figures evaluateNext (settle s))

/-- PUBLICATION: stage 8 and the completion of the pass (R116, R108). -/
def execPublication (s : State) : Host.Outcome State Fault Refusal :=
  .next (atStage .publication (fun t => completePass (publishAll t)) (settle s))

end Sys2Proof.Machine
end

