-- ==== Sys2Proof/Machine/Peers.lean ====
section
/-! DEFINITION. Frames from peers: SUMMARY (R146 to R149), ANNOUNCE (R151), ANSWER and ALERT (R175). -/

namespace Sys2Proof.Machine

/-- The capacity of the peer table (R145). -/
def maxPeers : Nat := 16

/-- A D as the peer table stores it: −2,147,483,648 is stored as −2,147,483,647 (R147). -/
def storedD (d : Int) : Int := max d (-2147483647)

/-- An entry at its creation, before its first update (R146). -/
def PeerEntry.created (a : Station) (p : ParcelNo) (role : Role) (state : ParcelState) : PeerEntry :=
  ⟨a, p, role, 0, state, 0, 0, false⟩

/-- Steps 1 to 3 of an update (R147): the role check, the store, and the revision test against the own
parcel's current revision. -/
def PeerEntry.updated (e : PeerEntry) (m : SummaryMsg) (role : Role) (state : ParcelState)
    (own : Option Byte) : PeerEntry :=
  { e with
    role := role
    planRev := m.planRev
    state := state
    d := storedD m.d
    count := if e.role = role then e.count else 0
    planDiffers := decide (own ≠ some m.planRev) }

/-- Whether a state is compared: ACTIVE or CLOSED (R147, step 4). -/
def ParcelState.compared : ParcelState → Bool
  | .active => true
  | .closed => true
  | _ => false

/-- Whether a peer's D diverges from the own published one: the exact magnitude exceeds half the own
published band, floored (R148). -/
def diverges (own : Figures) (d : Int) : Bool := decide (own.band / 2 < (own.d - d).natAbs)

/-- The divergence count after a comparison (R148). -/
def divergedCount (divergent : Bool) (count : Nat) : Nat := if divergent then min (count + 1) 3 else 0

/-- The latching of a divergence (R149): the latch, ALERT_N with it (R135), and the alert with the peer's
address as value. -/
def latchPeer (p : ParcelNo) (a : Station) (s : State) : State :=
  queueAlert .peerDiverge (.parcel p) (a.val : Int)
    (driveAlertN (s.putParcel p { s.parcels[p] with peerDiverge := true }))

/-- The comparison of an updated entry (R148). -/
def compareEntry (e : PeerEntry) (s : State) : State :=
  let divergent := diverges s.parcels[e.parcel].published.figures e.d
  let t := s.putPeer { e with count := divergedCount divergent e.count }
  if divergent ∧ e.count = 2 then latchPeer e.parcel e.peer t else t

/-- An update of an entry from a SUMMARY (R147). -/
def updateEntry (e : PeerEntry) (m : SummaryMsg) (role : Role) (state : ParcelState) (s : State) : State :=
  let r := s.parcels[e.parcel]
  let u := e.updated m role state (r.decl.current.map (·.rev))
  if !u.planDiffers ∧ state.compared ∧ r.published.state.compared then compareEntry u s
  else s.putPeer u

/-- A SUMMARY reaches the peer table; the first case that applies decides (R146). -/
def takeSummary (p : List Byte) (a : Station) (s : State) : State :=
  let m := decodeSummary p
  match m.role, m.state with
  | some role, some state =>
    if state = .vacant then
      { s with peers := dropRec peerOrd (a.val * 8 + m.parcel.val) s.peers }
    else if s.parcels[m.parcel].state = .vacant then s
    else
      match s.peer? a m.parcel with
      | some e => updateEntry e m role state s
      | none =>
        if s.peers.length < maxPeers then updateEntry (PeerEntry.created a m.parcel role state) m role state s
        else s
  | _, _ => s

/-- An ANNOUNCE reaches the peer table: the entries of the announcing address for the parcels it shows
VACANT are removed (R151). -/
def takeAnnounce (p : List Byte) (a : Station) (s : State) : State :=
  { s with
    peers := s.peers.filter fun e =>
      !(decide (e.peer = a) && decide ((decodeAnnounce p).states[e.parcel] = some .vacant)) }

/-- SUMMARY_FRAME: the role reaches the freshness table at the act of the heard report (R168), then the
frame the peer table (R175). -/
def execSummaryFrame (f : Frame) (s : State) : Host.Outcome State Fault Refusal :=
  .next (receive .summary f
    (fun a t => takeSummary f.payload a (heardRole a (decodeSummary f.payload).role t)) (settle s))

/-- ANNOUNCE_FRAME: the role reaches the freshness table at the act of the heard report (R168), then the
frame the peer table (R175). -/
def execAnnounceFrame (f : Frame) (s : State) : Host.Outcome State Fault Refusal :=
  .next (receive .announce f
    (fun a t => takeAnnounce f.payload a (heardRole a (decodeAnnounce f.payload).role t)) (settle s))

/-- ANSWER_FRAME: the heard report alone (R175). -/
def execAnswerFrame (f : Frame) (s : State) : Host.Outcome State Fault Refusal :=
  .next (receive .answer f (fun _ t => t) (settle s))

/-- ALERT_FRAME: the heard report alone (R175). -/
def execAlertFrame (f : Frame) (s : State) : Host.Outcome State Fault Refusal :=
  .next (receive .alert f (fun _ t => t) (settle s))

end Sys2Proof.Machine
end

