-- ==== Sys2Proof/Machine/Queries.lean ====
section
/-! DEFINITION. The query queue at arrival (R190, R191) and the six QUERY commands. -/

namespace Sys2Proof.Machine

/-- The most queries queued (R190). -/
def maxQueries : Nat := 4

/-- The subject byte the queue keeps: 0 for a NODE query (R190). -/
def keptSubject (k : QueryKind) (subject : Byte) : Byte := if k = .node then 0 else subject

/-- A query appended; to an empty queue, it becomes the head and its build is frozen at once (R190). -/
def enqueue (q : Query) (s : State) : State :=
  let t := { s with qq := { s.qq with queries := s.qq.queries ++ [q] } }
  if s.qq.queries.isEmpty then freezeHead t else t

/-- A QUERY reaches the query queue; the first case that applies decides (R190). -/
def takeQuery (p : List Byte) (a : Station) (s : State) : State :=
  let m := decodeQuery p
  if m.target ≠ s.sr.address.val then s
  else
    match m.kind with
    | none => s
    | some k =>
      let q : Query := ⟨a, k, keptSubject k m.subject⟩
      if s.qq.queries.any fun x => decide (x = q) then s
      else if maxQueries ≤ s.qq.queries.length then s
      else enqueue q s

/-- QUERY_PARCEL. The kind in the frame's own payload decides which answer is built (R190). -/
def execQueryParcel (f : Frame) (s : State) : Host.Outcome State Fault Refusal :=
  .next (receive .query f (takeQuery f.payload) (settle s))

/-- QUERY_TANK. -/
def execQueryTank (f : Frame) (s : State) : Host.Outcome State Fault Refusal :=
  .next (receive .query f (takeQuery f.payload) (settle s))

/-- QUERY_METER. -/
def execQueryMeter (f : Frame) (s : State) : Host.Outcome State Fault Refusal :=
  .next (receive .query f (takeQuery f.payload) (settle s))

/-- QUERY_TERM. -/
def execQueryTerm (f : Frame) (s : State) : Host.Outcome State Fault Refusal :=
  .next (receive .query f (takeQuery f.payload) (settle s))

/-- QUERY_NODE. -/
def execQueryNode (f : Frame) (s : State) : Host.Outcome State Fault Refusal :=
  .next (receive .query f (takeQuery f.payload) (settle s))

/-- QUERY_TIMER. -/
def execQueryTimer (f : Frame) (s : State) : Host.Outcome State Fault Refusal :=
  .next (receive .query f (takeQuery f.payload) (settle s))

end Sys2Proof.Machine
end

