-- ==== Sys2Proof/Machine/Reports.lean ====
section
/-! DEFINITION. Reports at arrival: GAUGE (R46 to R51), METER (R63, R64) and VALVE (R68). -/

namespace Sys2Proof.Machine

/-! ### GAUGE -/

/-- The largest step, in litres, that passes the step test (R49). -/
def stepLimit : Nat := 50000

/-- The magnitude of a step (R49). -/
def stepOf (a b : Nat) : Nat := max a b - min a b

/-- A reading accepted (R51): it replaces the last accepted reading, GAUGE-INVALID is cleared and the
step-confirm count is 0. -/
def TankWork.accept (w : TankWork) (r : GaugeReading) : TankWork :=
  { w with reading := some r, gaugeInvalid := false, confirm := 0 }

/-- A reading taken in (R48 to R50), the sequence already advanced. -/
def TankWork.takeReading (w : TankWork) (valid : Bool) (r : GaugeReading) : TankWork :=
  if valid then
    match w.reading with
    | none => w.accept r
    | some last =>
      if stepOf r.volume last.volume ≤ stepLimit then w.accept r
      else if w.confirm < 2 then { w with confirm := w.confirm + 1 }
      else { w.accept r with rebased := true }
  else { w with gaugeInvalid := true, confirm := 0 }

/-- A GAUGE frame for a record that holds a current declaration (R47). -/
def TankWork.gauge (w : TankWork) (m : GaugeMsg) : TankWork :=
  if seqTaken w.lastSeq m.seq then
    TankWork.takeReading { w with lastSeq := some m.seq } m.valid m.reading
  else w

/-- A GAUGE frame reaches the tank table (R46). -/
def takeGauge (p : List Byte) (a : Station) (s : State) : State :=
  let m := decodeGauge p
  match s.tank? ⟨a, m.index⟩ with
  | none => s
  | some r =>
    match r.work with
    | none => s
    | some w => s.putTank { r with work := some (w.gauge m) }

/-! ### METER -/

/-- A METER frame reaches the meter table (R63, R64). A frame taken in with VALID set is an accepted frame
and a count event of T0 (R158). -/
def takeMeter (p : List Byte) (a : Station) (s : State) : State :=
  let m := decodeMeter p
  match s.meter? ⟨a, m.index⟩ with
  | none => s
  | some r =>
    match r.work with
    | none => s
    | some w =>
      if seqTaken w.lastSeq m.seq then
        if m.valid then
          countEvent 0 (s.putMeter
            { r with work := some { w with lastSeq := some m.seq, reading := some m.reading } })
        else s.putMeter { r with work := some { w with lastSeq := some m.seq, reading := none } }
      else s

/-! ### VALVE -/

/-- A VALVE frame reaches the valve table (R68). -/
def takeValve (p : List Byte) (a : Station) (s : State) : State :=
  let m := decodeValve p
  match s.valve? a with
  | none => s
  | some e =>
    if seqTaken e.lastSeq m.seq then s.putValve { e with states := m.states, lastSeq := some m.seq }
    else s

/-! ### The commands -/

/-- GAUGE. -/
def execGauge (f : Frame) (s : State) : Host.Outcome State Fault Refusal :=
  .next (receive .gauge f (takeGauge f.payload) (settle s))

/-- METER. -/
def execMeter (f : Frame) (s : State) : Host.Outcome State Fault Refusal :=
  .next (receive .meter f (takeMeter f.payload) (settle s))

/-- VALVE. -/
def execValve (f : Frame) (s : State) : Host.Outcome State Fault Refusal :=
  .next (receive .valve f (takeValve f.payload) (settle s))

end Sys2Proof.Machine
end

