-- ==== Sys2Proof/Machine/Dispatch.lean ====
section
/-! DEFINITION. One arm for each command. -/

namespace Sys2Proof.Machine

def exec (i : Instr) (s : State) : Host.Outcome State Fault Refusal :=
  match i with
  | .powerOnReset straps esd => Sys2Proof.Machine.execPowerOnReset straps esd s
  | .resetN esd => Sys2Proof.Machine.execResetN esd s
  | .staggerEnd => Sys2Proof.Machine.execStaggerEnd s
  | .esdInputChange level => Sys2Proof.Machine.execEsdInputChange level s
  | .esdAssertionAccepted => Sys2Proof.Machine.execEsdAssertionAccepted s
  | .esdReleaseAccepted => Sys2Proof.Machine.execEsdReleaseAccepted s
  | .t0Zero => Sys2Proof.Machine.execT0Zero s
  | .t1Zero => Sys2Proof.Machine.execT1Zero s
  | .t2Zero => Sys2Proof.Machine.execT2Zero s
  | .t3Zero => Sys2Proof.Machine.execT3Zero s
  | .handOver => Sys2Proof.Machine.execHandOver s
  | .snapshot => Sys2Proof.Machine.execSnapshot s
  | .holdCauseRecomputation => Sys2Proof.Machine.execHoldCauseRecomputation s
  | .standardVolumeComputation => Sys2Proof.Machine.execStandardVolumeComputation s
  | .meterConsumption => Sys2Proof.Machine.execMeterConsumption s
  | .markApplication => Sys2Proof.Machine.execMarkApplication s
  | .figureEvaluation => Sys2Proof.Machine.execFigureEvaluation s
  | .publication => Sys2Proof.Machine.execPublication s
  | .gauge f => Sys2Proof.Machine.execGauge f s
  | .meter f => Sys2Proof.Machine.execMeter f s
  | .valve f => Sys2Proof.Machine.execValve f s
  | .dmeter f => Sys2Proof.Machine.execDmeter f s
  | .dparcel f => Sys2Proof.Machine.execDparcel f s
  | .dtank f => Sys2Proof.Machine.execDtank f s
  | .droute f => Sys2Proof.Machine.execDroute f s
  | .mark f => Sys2Proof.Machine.execMark f s
  | .summaryFrame f => Sys2Proof.Machine.execSummaryFrame f s
  | .announceFrame f => Sys2Proof.Machine.execAnnounceFrame f s
  | .answerFrame f => Sys2Proof.Machine.execAnswerFrame f s
  | .alertFrame f => Sys2Proof.Machine.execAlertFrame f s
  | .cadenceHalt f => Sys2Proof.Machine.execCadenceHalt f s
  | .cadenceNow f => Sys2Proof.Machine.execCadenceNow f s
  | .cadenceResume f => Sys2Proof.Machine.execCadenceResume f s
  | .queryParcel f => Sys2Proof.Machine.execQueryParcel f s
  | .queryTank f => Sys2Proof.Machine.execQueryTank f s
  | .queryMeter f => Sys2Proof.Machine.execQueryMeter f s
  | .queryTerm f => Sys2Proof.Machine.execQueryTerm f s
  | .queryNode f => Sys2Proof.Machine.execQueryNode f s
  | .queryTimer f => Sys2Proof.Machine.execQueryTimer f s
  | .badFrame r => Sys2Proof.Machine.execBadFrame r s
  | .addressClash r => Sys2Proof.Machine.execAddressClash r s
  | .busIdle => Sys2Proof.Machine.execBusIdle s
  | .lostArbitration => Sys2Proof.Machine.execLostArbitration s
  | .readbackClash => Sys2Proof.Machine.execReadbackClash s
  | .frameSent => Sys2Proof.Machine.execFrameSent s
  | .referenceTick => Sys2Proof.Machine.execReferenceTick s
  | .identifierComplete => Sys2Proof.Machine.execIdentifierComplete s
  | .startBit => Sys2Proof.Machine.execStartBit s

end Sys2Proof.Machine
end

