-- ==== Sys2Proof/Safety.lean ====
section
/-! DEFINITION. What the statements say of the machine: the invariants of its blocks, and the few words they
share about commands. -/

namespace Sys2Proof.Safety

open Machine

/-! ### Commands -/

/-- The kind and frame of a command that brings a received frame to its owner. -/
def frameOf : Instr → Option (FrameKind × Frame)
  | .gauge f => some (.gauge, f)
  | .meter f => some (.meter, f)
  | .valve f => some (.valve, f)
  | .dmeter f => some (.dmeter, f)
  | .dparcel f => some (.dparcel, f)
  | .dtank f => some (.dtank, f)
  | .droute f => some (.droute, f)
  | .mark f => some (.mark, f)
  | .summaryFrame f => some (.summary, f)
  | .announceFrame f => some (.announce, f)
  | .answerFrame f => some (.answer, f)
  | .alertFrame f => some (.alert, f)
  | .cadenceHalt f => some (.cadence, f)
  | .cadenceNow f => some (.cadence, f)
  | .cadenceResume f => some (.cadence, f)
  | .queryParcel f => some (.query, f)
  | .queryTank f => some (.query, f)
  | .queryMeter f => some (.query, f)
  | .queryTerm f => some (.query, f)
  | .queryNode f => some (.query, f)
  | .queryTimer f => some (.query, f)
  | _ => none

/-- No act is due within the node: no act of an owner told of a frame sent, no zero of a timer, no edge of the ESD
input that has stood for 20 ms, and no end of the stagger (log 2, log 21). -/
abbrev Calm (s : State) : Prop :=
  s.told = none ∧ (∀ i : TimerNo, s.ct.timers[i].zeroDue = false)
    ∧ (s.sr.stableAt .asserted = false ∧ s.sr.stableAt .released = false) ∧ s.sr.stagger ≠ .running 0

/-- The node receives a frame: one has begun since the last idle of the bus, and the transmit state is IDLE
(R174, R177). -/
abbrev Receiving (s : State) : Prop := s.bi.receiving = true ∧ s.bi.tx = .idle

/-- The node, with no act due, receives a frame of a kind that is good and comes from a station that is not this
node (R174, R175). -/
abbrev From (k : FrameKind) (f : Frame) (a : Station) (s : State) : Prop :=
  lengthOk k f.payload.length = true ∧ stationOf f.src = some a ∧ a.val ≠ s.sr.address.val
    ∧ Receiving s ∧ Calm s

/-- The state in which a good frame of another station reaches its owner: judged, and its sender heard
(R175), with no event between (log 26). -/
abbrev heardFrom (a : Station) (s : State) : State := heard a (judged s)

/-- A command `n` times in a row. -/
def again : Nat → Instr → State → Host.Outcome State Fault Refusal
  | 0, _, s => .next s
  | n + 1, c, s =>
    match exec c s with
    | .next t => again n c t
    | .fault r => .fault r
    | .refused r => .refused r

/-- A stage that has dealt with a record: it goes on from a place in its records, or the pass goes on to the
next stage (R109). -/
def stageOn (next : Stage) (more : Bool) (reached : Nat) (s : State) : State :=
  { s with
    ee :=
      { s.ee with
        pass := if more then s.ee.pass else .running next
        visited := if more then reached else 0 } }

/-- What an arriving copy leads to at a record's declaration state (R27 to R33): one outcome for a first or
newer copy, one for a repeat or an older copy, and one for a clash. -/
abbrev Arrives {α : Type} (same : α → α → Prop) (d : Decls α) (c : Copy α)
    (outcome staged ignored clashed : Host.Outcome State Fault Refusal) : Prop :=
  (d.newestKnown = none → outcome = staged)
    ∧ ∀ known, d.newestKnown = some known →
        let ahead := newerThan c.rev d.current = true ∧ newerThan c.rev d.handOver = true
          ∧ newerThan c.rev d.staged = true
        (ahead → outcome = staged)
          ∧ (¬ahead → c.rev = known.rev → same known.contents c.contents → outcome = ignored)
          ∧ (¬ahead → c.rev = known.rev → ¬same known.contents c.contents → outcome = clashed)
          ∧ (¬ahead → c.rev ≠ known.rev → outcome = ignored)

/-- A run of increments of one meter to one parcel, each a delta, a factor and a CTL5, from a residue: the sum
of the increments and the residue at the end (R13). -/
def meterRun : Nat → List (Nat × Nat × Nat) → Nat × Nat
  | residue, [] => (0, residue)
  | residue, (delta, factor, ctl) :: rest =>
    let inc := meterIncrement delta factor ctl residue
    let later := meterRun inc.2 rest
    (inc.1 + later.1, later.2)

/-- The stations that an act turns from fresh to stale, in ascending address (R169): fresh at the old age and
limit, stale at the new ones. -/
def turnedStale (s t : State) : List Station :=
  (List.finRange 63).filter fun a =>
    decide (s.fresh[a].age < s.ct.staleLimit) && decide (t.ct.staleLimit ≤ t.fresh[a].age)

/-! ### Invariants, block by block -/

/-- ALERT_N follows its condition (R135). -/
abbrev LineFollows (s : State) : Prop := s.alertN = alertCondition s

/-- At most one frame of the node is on the bus, none while the node is MUTE or in its stagger; a frame is in
flight exactly while the transmit state is not IDLE, and what is driven is that frame with the class of its
slot, its kind, the node's address and its check value; an idle bus carries no frame, sent or received (R172,
R173, R178, R181, R182). -/
abbrev OneFrameOnBus (s : State) : Prop :=
  (s.slots.toList.countP Slot.isInFlight = if s.bi.tx = .idle then 0 else 1)
    ∧ (s.bi.tx ≠ .idle → s.bi.mute = false ∧ s.sr.stagger = .ended)
    ∧ s.bi.driven = (inFlightSlot s.slots).bind (fun i => frameOfSlot s.sr.address i s.slots[i])
    ∧ (s.bi.busIdle = true → s.bi.tx = .idle ∧ s.bi.receiving = false)

/-- The alert queue holds at most 16 records, no two of one cause and subject, and slot 0 holds a frame
exactly while the queue holds a record, but between the frame's sending and the queue's act on it (R184, R188,
R189). -/
abbrev AlertQueueSound (s : State) : Prop :=
  s.aq.records.length ≤ 16
    ∧ s.aq.records.Pairwise (fun a b => sameAlert a b = false)
    ∧ (s.slots[(0 : Fin 4)] = .empty ↔ s.aq.records = [] ∨ s.told = some 0)
    ∧ (s.told = some 0 → s.aq.records ≠ [])

/-- The query queue holds at most 4 queries, no two alike; a build of one to three parts is held exactly while
the queue holds a query, and slot 1 holds a frame then, but between its sending and the queue's act on it
(R184, R190, R191). -/
abbrev QueryQueueSound (s : State) : Prop :=
  s.qq.queries.length ≤ 4
    ∧ s.qq.queries.Nodup
    ∧ (s.slots[(1 : Fin 4)] = .empty ↔ s.qq.queries = [] ∨ s.told = some 1)
    ∧ (s.told = some 1 → s.qq.queries ≠ [])
    ∧ (s.qq.queries = [] ↔ s.qq.build = none)
    ∧ ∀ b ∈ s.qq.build, 1 ≤ b.next ∧ b.next ≤ b.parts.length ∧ b.parts.length ≤ 3

/-- While the summary round is IDLE slot 2 is empty and round-pending is clear; while it runs slot 2 holds a
frame, but between its sending and the round's search; the cursor lies in 0..8 (R140, R144, R184). -/
abbrev RoundSound (s : State) : Prop :=
  (s.slots[(2 : Fin 4)] = .empty ↔ s.round.running = false ∨ s.told = some 2)
    ∧ (s.told = some 2 → s.round.running = true)
    ∧ (s.round.running = false → s.round.pending = false)
    ∧ s.round.cursor ≤ 8

/-- A parameter set's constant lies in 1..256 (R155). -/
abbrev ParamsSound (p : TimerParams) : Prop := 1 ≤ p.constant ∧ p.constant ≤ 256

/-- A timer's count lies in 1..256, its phase below the prescale in TIME mode and at 0 in COUNT mode
(R155). -/
abbrev TimerSound (t : Timer) : Prop :=
  1 ≤ t.count ∧ t.count ≤ 256
    ∧ ParamsSound t.params
    ∧ (∀ p ∈ t.pendingSet, ParamsSound p)
    ∧ (t.params.mode = .time → t.phase < prescaleOf t.params.prescale)
    ∧ (t.params.mode = .count → t.phase = 0)

/-- T3 stands HALTED while the stagger runs, unless a CADENCE frame for it has been taken since reset end (R156). -/
abbrev T3Waits (s : State) : Prop :=
  s.sr.stagger ≠ .ended → s.ct.t3Set = false → s.ct.timers[(3 : Fin 4)].run = .halted

/-- Every timer sound, T3 waiting for the stagger's end, and the stale limit in 1..15 (R155, R156). -/
abbrev TimersSound (s : State) : Prop :=
  (∀ t ∈ s.ct.timers.toList, TimerSound t) ∧ T3Waits s ∧ 1 ≤ s.ct.staleLimit ∧ s.ct.staleLimit ≤ 15

/-- Every age lies in 0..15 (R167). -/
abbrev AgesSound (s : State) : Prop := ∀ e ∈ s.fresh.toList, e.age ≤ 15

/-- The tank, meter, valve and peer tables keep their canonical form and their capacities (R40, R59, R66,
R145). -/
abbrev TablesSound (s : State) : Prop :=
  (keysRising tankOrd s.tanks = true ∧ s.tanks.length ≤ 48)
    ∧ (keysRising meterOrd s.meters = true ∧ s.meters.length ≤ 12)
    ∧ (keysRising valveOrd s.valves = true ∧ s.valves.length ≤ 8)
    ∧ (keysRising peerOrd s.peers = true ∧ s.peers.length ≤ 16)

/-- A valve entry stands for a station exactly when a literal of a current term names it (R66). -/
abbrev ValvesNamed (s : State) : Prop := s.valves.map (·.station) = namedStations (heldTerms s)

/-- A declaration state's revisions run forward: each newer than the ones before it (R27). -/
abbrev Forward {α : Type} (d : Decls α) : Prop :=
  (∀ c ∈ d.staged, newerThan c.rev d.handOver = true ∧ newerThan c.rev d.current = true)
    ∧ ∀ c ∈ d.handOver, newerThan c.rev d.current = true

/-- The revisions of every record run forward (R27). -/
abbrev RevisionsForward (s : State) : Prop :=
  (∀ r ∈ s.tanks, Forward r.decl) ∧ (∀ r ∈ s.meters, Forward r.decl)
    ∧ (∀ r ∈ s.parcels.toList, Forward r.decl) ∧ (∀ r ∈ s.terms.toList, Forward r.decl)

/-- A tank or meter record holds its working fields exactly with a current declaration (R26, R40, R59). -/
abbrev WorkWithCurrent (s : State) : Prop :=
  (∀ r ∈ s.tanks, r.work.isSome = r.decl.current.isSome)
    ∧ ∀ r ∈ s.meters, r.work.isSome = r.decl.current.isSome

/-- The stages during which the snapshot buffer holds a snapshot (R105). -/
def holdsSnapshot : PassState → Bool
  | .idle => false
  | .running .handOver => false
  | .running .snapshot => false
  | .running _ => true

/-- The stages that record how far among their records they have come. -/
def countsVisits : PassState → Bool
  | .running .holdCauses => true
  | .running .tankVolumes => true
  | .running .meterFlow => true
  | .running .marks => true
  | .running .figures => true
  | _ => false

/-- The snapshot buffer is filled from stage 2 to the end of the pass, evaluated sets stand from stage 7, which
makes them one by one, to stage 8 alone, no stage has dealt with a record before it begins, and an IDLE engine
has no pass pending (R105, R109, R115). -/
abbrev EngineSound (s : State) : Prop :=
  s.ee.snapshot.isSome = holdsSnapshot s.ee.pass
    ∧ (s.ee.pass ≠ .running .figures → s.ee.pass ≠ .running .publication →
        ∀ e ∈ s.ee.evaluated.toList, e = none)
    ∧ (∀ p : ParcelNo, s.ee.pass = .running .figures → s.ee.visited ≤ p.val → s.ee.evaluated[p] = none)
    ∧ (countsVisits s.ee.pass = false → s.ee.visited = 0)
    ∧ (s.ee.pass = .idle → s.ee.pending = false)

/-- A parcel's record under R84, R88, R90 and R125: an α computed from an admissible current declaration, an
empty hold-cause set outside HELD, and a count within the depth. -/
abbrev ParcelSound (r : ParcelRec) : Prop :=
  (∀ c ∈ r.decl.current, parcelInRange c.contents = true
      ∧ r.alpha = some (expansion c.contents.cls c.contents.density))
    ∧ (r.state ≠ .vacant → r.decl.current.isSome = true)
    ∧ (r.state ≠ .held → r.holds = HoldSet.empty)
    ∧ r.count ≤ r.depth
    ∧ 0 ≤ r.meterTotal ∧ r.meterTotal ≤ satLimit

/-- Every parcel record sound. -/
abbrev ParcelsSound (s : State) : Prop := ∀ r ∈ s.parcels.toList, ParcelSound r

/-- A meter's working fields within the ranges of R59. -/
abbrev MeterSound (w : MeterWork) : Prop :=
  95000 ≤ w.factor ∧ w.factor ≤ 105000
    ∧ w.residue < 10 ^ 10 ∧ w.sinceNotice < 1000
    ∧ w.routed ≤ maxAccumulator ∧ w.conflict ≤ maxAccumulator ∧ w.unrouted ≤ maxAccumulator

/-- Every meter record within the ranges of R59. -/
abbrev MetersSound (s : State) : Prop := ∀ r ∈ s.meters, ∀ w ∈ r.work, MeterSound w

/-- A tank's reading fields: the step-confirm count lies in 0..2, and it rises only beside a last accepted
reading; without a reading GAUGE-INVALID is set (R40, R41, R49). -/
abbrev GaugeSound (w : TankWork) : Prop :=
  w.confirm ≤ 2 ∧ (w.reading = none → w.confirm = 0 ∧ w.gaugeInvalid = true)

/-- Every tank's reading fields sound. -/
abbrev GaugesSound (s : State) : Prop := ∀ r ∈ s.tanks, ∀ w ∈ r.work, GaugeSound w

/-- The stages between the snapshot and the end of stage 4. -/
def beforeVolumes : PassState → Bool
  | .running .holdCauses => true
  | .running .tankVolumes => true
  | _ => false

/-- The snapshot entries whose tanks stage 4 has dealt with, while that matters to an OPEN: at stage 4 those it
has visited, then all of them until stage 6 is over. -/
def volumesComputed (s : State) (n : Snapshot) : List TankSnap :=
  match s.ee.pass with
  | .running .tankVolumes => n.tanks.take s.ee.visited
  | .running .meterFlow => n.tanks
  | .running .marks => n.tanks
  | _ => []

/-- What a tank holds beside its parcel's state and the snapshot: the tank of an opened parcel has a reading,
a current and an opening standard volume; until stage 4 its snapshot entry holds a reading; and a tank of a
DECLARED parcel that stage 4 has dealt with, and whose snapshot entry is not GAUGE-INVALID, has a current
standard volume (R53, R55). -/
abbrev TankHolds (s : State) (k : Key) (w : TankWork) (p : ParcelNo) : Prop :=
  (s.parcels[p].state.opened = true →
      w.reading.isSome = true ∧ w.current.isSome = true ∧ w.opening.isSome = true
        ∧ (beforeVolumes s.ee.pass = true →
            ∀ n ∈ s.ee.snapshot, ∀ e ∈ n.tank? k, e.reading.isSome = true))
    ∧ (s.parcels[p].state = .declared →
        ∀ n ∈ s.ee.snapshot, (∃ e ∈ volumesComputed s n, e.key = k) → snapInvalid n k = false →
          w.current.isSome = true)

/-- Every entry of the snapshot without GAUGE-INVALID holds a reading, and a tank whose entry holds one has a
last accepted reading (R49, R52, R53). -/
abbrev SnapshotGauges (s : State) : Prop :=
  ∀ n ∈ s.ee.snapshot, ∀ e ∈ n.tanks, (e.gaugeInvalid = false → e.reading.isSome = true)
    ∧ (e.reading.isSome = true → ∀ r ∈ s.tanks, r.key = e.key → ∀ w ∈ r.work, w.reading.isSome = true)

/-- The invariant behind the second law of R55: every tank assigned to an opened parcel has an opening
standard volume. -/
abbrev VolumesSound (s : State) : Prop :=
  TablesSound s ∧ ValvesNamed s ∧ WorkWithCurrent s ∧ EngineSound s ∧ ParcelsSound s ∧ GaugesSound s
    ∧ SnapshotGauges s ∧ ∀ r ∈ s.tanks, ∀ w ∈ r.work, ∀ p ∈ w.parcel, TankHolds s r.key w p

end Sys2Proof.Safety
end

