-- ==== Sys2Proof/Certificates/Slice0/Obligations.lean ====
section
/-! DEFINITION. The statements for the provers. Each says in its docstring which rules of the manual it
formalises, and which log entry it rests on where it rests on one. -/

open Sys2Proof Sys2Proof.Machine Sys2Proof.Safety

/-! ### The queue of commands -/

/-- A step carries out the command at the front of the queue with the queue's rest. On an empty queue the block
idles, which is the model's choice (log 6). -/
def Obligations.StepRunsFrontCommand : Prop :=
  ∀ (c : Instr) (rest : List Instr) (s : State),
    step { s with pending := c :: rest } = exec c { s with pending := rest }
      ∧ step { s with pending := [] } = .next { s with pending := [] }

/-- Out of R155, R159, R182, R184, R198 and R199: what has fallen due within the node is taken before a command: the act
of an owner told of a frame sent, the zeros in the order of their timers, an edge of the ESD input that has stood for
20 ms, and the end of the stagger, as their own commands would take them; nothing is due then, and where nothing is due
nothing is taken. The command of such an act takes the owner's act and its own, and the idle of the bus comes before an
owner's act that waits. These places, where the manual leaves the order of such acts and the next event open, are the
model's (log 2, log 21). -/
def Obligations.DueActsComeFirst : Prop :=
  (∀ s : State, Calm (settle s) ∧ (Calm s → settle s = s))
    ∧ (∀ s t0 t1 t2 t3 asserted released ended : State,
        exec .t0Zero s = .next t0 → exec .t1Zero t0 = .next t1 → exec .t2Zero t1 = .next t2 →
        exec .t3Zero t2 = .next t3 → exec .esdAssertionAccepted t3 = .next asserted →
        exec .esdReleaseAccepted asserted = .next released → exec .staggerEnd released = .next ended →
        settle s = ended)
    ∧ (∀ (c : Instr) (s : State), c ≠ .t0Zero → c ≠ .t1Zero → c ≠ .t2Zero → c ≠ .t3Zero →
        c ≠ .esdAssertionAccepted → c ≠ .esdReleaseAccepted → c ≠ .staggerEnd → c ≠ .busIdle →
        (∀ straps esd, c ≠ .powerOnReset straps esd) → (∀ esd, c ≠ .resetN esd) → exec c s = exec c (settle s))
    ∧ (∀ s : State, s.told = none →
        (s.ct.timers[(0 : Fin 4)].zeroDue = false → exec .t0Zero s = .next s)
        ∧ (s.ct.timers[(1 : Fin 4)].zeroDue = false → exec .t1Zero s = .next s)
        ∧ (s.ct.timers[(2 : Fin 4)].zeroDue = false → exec .t2Zero s = .next s)
        ∧ (s.ct.timers[(3 : Fin 4)].zeroDue = false → exec .t3Zero s = .next s))
    ∧ ∀ s u : State, exec .busIdle { s with told := none } = .next u →
        exec .busIdle s = .next (settleOwner { u with told := s.told })

/-! ### Chapter 1: arithmetic -/

/-- Out of R2 and R3: the expansion coefficient is the sum of two truncated quotients with the constants of each
class; over the admissible densities it falls as the density rises, and it lies in 539,668..1,689,061. A density
outside 6100..11000 is refused, and the record of an accepted declaration keeps its α. -/
def Obligations.ExpansionCoefficient : Prop :=
  (∀ d : Nat, expansion 0 d = 34600000000000 / (d * d) + 4400000000 / d
      ∧ expansion 1 d = 18690000000000 / (d * d) + 4900000000 / d
      ∧ expansion 2 d = 59800000000000 / (d * d) + 500000000 / d
      ∧ expansion 3 d = 0 / (d * d) + 6200000000 / d)
    ∧ (∀ (cls : Fin 4) (d : Nat), 6100 ≤ d → d ≤ 11000 →
        539668 ≤ expansion cls d ∧ expansion cls d ≤ 1689061
          ∧ ∀ e : Nat, d ≤ e → e ≤ 11000 → expansion cls e ≤ expansion cls d)
    ∧ (∀ (r : ParcelRec) (d : ParcelDecl), d.density < 6100 ∨ 11000 < d.density →
        parcelRefusal r d = some .range)
    ∧ ∀ (r : ParcelRec) (c : Copy ParcelDecl),
        (r.declared c).alpha = some (expansion c.contents.cls c.contents.density)

/-- R5 and R6: the temperature term, the second-order term and CTL_raw with their ranges, the rounding half-up
and the clamp after it, and that every CTL5 lies within 90,000..110,000 (here within 90,000..105,807). -/
def Obligations.CorrectionFactor : Prop :=
  (∀ (alpha : Nat) (temp : Int), 539668 ≤ alpha → alpha ≤ 1689061 →
    let delta : Int := (if temp < -2000 then -2000 else if 9000 < temp then 9000 else temp) - 1500
    let x : Int := alpha * delta
    let q : Int := 3 * (x * x) / 1000000000000
    let raw : Int := 100000000000 - x - q
    let rounded : Int := (raw + 500000) / 1000000
    tempTerm alpha delta = x ∧ secondOrder x = q ∧ ctlRaw alpha delta = raw
      ∧ -5911713500 ≤ x ∧ x ≤ 12667957500
      ∧ 0 ≤ q ∧ q ≤ 481431441
      ∧ 86850611059 ≤ raw ∧ raw ≤ 105806868431
      ∧ ((ctl5 alpha temp).value : Int)
          = (if rounded < 90000 then 90000 else if 110000 < rounded then 110000 else rounded)
      ∧ 90000 ≤ (ctl5 alpha temp).value ∧ (ctl5 alpha temp).value ≤ 105807
      ∧ ((ctl5 alpha temp).limited = true ↔ temp < -2000 ∨ 9000 < temp)
      ∧ (temp = 1500 → (ctl5 alpha temp).value = 100000))
    ∧ ctlRaw 1689061 7500 = 86850611059 ∧ ctlRaw 1689061 (-3500) = 105806868431

/-- R9 and R10: the net observed volume and the gross standard volume with their ranges, the rounding half-up,
and that the standard volume is what the record holds as its current and, once opened, as its opening
standard volume. -/
def Obligations.TankStandardVolume : Prop :=
  ∀ (alpha : Nat) (r : GaugeReading) (w : TankWork), 539668 ≤ alpha → alpha ≤ 1689061 →
    let v := min r.volume 99999999
    let net := if r.freeWater ≤ v then v - r.freeWater else 0
    let gsv := (net * (ctl5 alpha r.temp).value + 50000) / 100000
    (clampVolume r.volume).value = v ∧ ((clampVolume r.volume).limited = true ↔ 99999999 < r.volume)
      ∧ netVolume v r.freeWater = net ∧ net ≤ 99999999
      ∧ standardVolume alpha r = gsv ∧ gsv ≤ 105806999
      ∧ (net = 0 → gsv = 0)
      ∧ (w.computed alpha r).current = some gsv
      ∧ (w.computed alpha r).opened.opening = some gsv

/-- R13 and R14: the residue makes a run of increments lossless, whatever the deltas, factors and factors of
correction; a delta of 0 gives the residue back; a forfeiture discards less than a litre; and the bounds of
the meter computation. -/
def Obligations.MeterIncrementsLossless : Prop :=
  (∀ (residue : Nat) (run : List (Nat × Nat × Nat)),
    (meterRun residue run).1 * 10000000000 + (meterRun residue run).2
      = residue + (run.map fun x => x.1 * x.2.1 * x.2.2).sum)
    ∧ (∀ factor ctl residue : Nat, residue < 10000000000 →
        meterIncrement 0 factor ctl residue = (0, residue))
    ∧ (∀ (w : MeterWork) (p : ParcelNo), MeterSound w →
        (w.lastCredited = some p → residueIn w p = w.residue)
          ∧ (w.lastCredited ≠ some p → residueIn w p = 0 ∧ w.residue < 10000000000))
    ∧ (∀ delta factor ctl residue : Nat, delta ≤ 8388608 → 95000 ≤ factor → factor ≤ 105000 →
        90000 ≤ ctl → ctl ≤ 105807 → residue ≤ 9999999999 →
        meterProduct delta factor ctl residue ≤ 93195221898879999
          ∧ (meterIncrement delta factor ctl residue).1 ≤ 9319522
          ∧ (meterIncrement delta factor ctl residue).2 < 10000000000)
    ∧ ∀ residue : Nat, residue ≤ 9999999999 →
        meterProduct 1 95000 90000 residue = 8550000000 + residue
          ∧ (meterIncrement 1 95000 90000 residue).1 = if 1450000000 ≤ residue then 1 else 0

/-- R18 and R20 to R23 with the last sentence of R17 and the part of R19 that a figure set shows: the shore meter figure
is the running total, the adjusted ship figure, the shore figure, the discrepancy, the band and the excursion test come
each from the figures before it as they stand after their own saturation, and SATURATED is set when the parcel's
indication was, or when S, H_tank, S_adj or D saturates. -/
def Obligations.FiguresOfAParcel : Prop :=
  (∀ (decl : ParcelDecl) (shipSum shoreSum meterTotal : Int) (indication : Bool),
    let e := evaluate decl shipSum shoreSum meterTotal indication
    let f := e.figures
    let adjusted := vefRounded f.s decl.vef
    f.hMeter = meterTotal
      ∧ f.h = (if decl.basis = .tank then f.hTank else f.hMeter)
      ∧ f.sAdj = max (-2147483647) (min 2147483647 adjusted)
      ∧ f.d = max (-2147483647) (min 2147483647 (f.sAdj - f.h))
      ∧ f.d.natAbs ≤ 2147483647
      ∧ (f.saturated = true ↔ indication = true ∨ 2147483647 < shipSum.natAbs ∨ 2147483647 < shoreSum.natAbs
          ∨ 2147483647 < adjusted.natAbs ∨ 2147483647 < (f.sAdj - f.h).natAbs)
      ∧ f.band = max (decl.floor * 100) ((decl.tolerance * max f.sAdj.natAbs f.h.natAbs + 5000) / 10000)
      ∧ (e.excursive = true ↔ f.band < f.d.natAbs)
      ∧ (5 ≤ decl.tolerance → decl.tolerance ≤ 200 → 1 ≤ decl.floor → decl.floor ≤ 65535 →
          meterTotal.natAbs ≤ 2147483647 → 100 ≤ f.band ∧ f.band ≤ 42949673))
    ∧ (∀ (s : Int) (vef : Nat), 9800 ≤ vef → vef ≤ 10200 →
        vefRounded (-s) vef = -vefRounded s vef
          ∧ (0 ≤ s → vefRounded s vef = (2 * s * 10000 + vef) / (2 * vef)))
    ∧ ∀ (r : ParcelRec) (d : ParcelDecl), d.vef < 9800 ∨ 10200 < d.vef → parcelRefusal r d = some .range

/-- R15 and R16: the ship figure and the shore tank figure of a parcel are the exact sums over its tanks of the
side that hold an opening standard volume, held within ±2,147,483,647 once, with a saturation reported, and
neither depends on the order of the tanks. -/
def Obligations.SidesSumTheirTanks : Prop :=
  (∀ (dir : Direction) (side : Side) (w : TankWork), w.side = side → ∀ c o : Nat, w.current = some c →
      w.opening = some o →
      contribution dir side w = (if dir = .discharge ↔ side = .ship then (o : Int) - c else (c : Int) - o)
        ∧ (c ≤ 105806999 → o ≤ 105806999 → (contribution dir side w).natAbs ≤ 105806999))
    ∧ (∀ (dir : Direction) (side : Side) (w : TankWork), w.side ≠ side ∨ w.opening = none →
        contribution dir side w = 0)
    ∧ (∀ (s : State) (p : ParcelNo) (d : ParcelDecl),
        let sum := fun side => ((assignedTanks s p).map fun e => contribution d.direction side e.2).sum
        let f := (evaluation s p d).figures
        f.s = max (-2147483647) (min 2147483647 (sum .ship))
          ∧ f.hTank = max (-2147483647) (min 2147483647 (sum .shore))
          ∧ (2147483647 < (sum .ship).natAbs ∨ 2147483647 < (sum .shore).natAbs → f.saturated = true))
    ∧ ∀ (s : State) (p : ParcelNo) (dir : Direction) (side : Side) (l : List TankRec), l.Perm s.tanks →
        sideSum { s with tanks := l } p dir side = sideSum s p dir side

/-! ### Chapter 10: frames -/

/-- Out of R172 to R174 and R181: the frame the transmit side drives for a slot has the slot's class, the kind built,
the node's address, the payload and the check value over them, its bits stand in the order of R172, and it is good, for
every payload of its kind's length; an ALERT the node builds has the eleven bytes of Table 10-2; an offer drives the
frame of the slot it chose, in every state; and two frames of different stations never share an identifier. -/
def Obligations.NodeFramesAreGood : Prop :=
  (∀ (i : Fin 4) (f : TxFrame) (address : Fin 27),
    let r := drivenFrame i.val f.kind address.val f.payload
    (frameOfSlot address i (.pending f) = some r ∧ frameOfSlot address i (.inFlight f) = some r)
      ∧ identifier r.cls.toNat r.kind.toNat r.src.toNat = i.val * 1024 + kindCode f.kind * 64 + address.val
      ∧ r.payload = f.payload
      ∧ (lengthOk f.kind f.payload.length = true →
          isGood r = true
            ∧ r.len.toNat = f.payload.length
            ∧ (frameBits r).length = 41 + 8 * f.payload.length
            ∧ frameBits r = [false] ++ bitsOf 12 (i.val * 1024 + kindCode f.kind * 64 + address.val)
                ++ bitsOf 5 f.payload.length ++ f.payload.flatMap (fun b => bitsOf 8 b.toNat)
                ++ bitsOf 16 r.check.toNat ++ List.replicate 7 true))
    ∧ (∀ a : Fin 27, identifier 0 (kindCode .alert) a.val = 768 + a.val
        ∧ identifier 1 (kindCode .answer) a.val = 1728 + a.val
        ∧ identifier 2 (kindCode .summary) a.val = 2624 + a.val
        ∧ identifier 3 (kindCode .announce) a.val = 3904 + a.val)
    ∧ (∀ r : AlertRec, r.value.natAbs ≤ 2147483647 →
        let f := alertFrame r
        f.kind = .alert ∧ f.payload.length = 11
          ∧ (byteAt f.payload 0).toNat = causeCode r.cause
          ∧ (byteAt f.payload 1).toNat = subjectClass r.subject
          ∧ (byteAt f.payload 2).toNat = subjectByte r.subject
          ∧ signed32At f.payload 3 = r.value
          ∧ unsignedAt f.payload 7 4 = r.time.toNat)
    ∧ (∀ s : State, s.bi.tx = .idle → (offer s).bi.tx = .arbitrating →
        ∃ (i : Fin 4) (f : TxFrame), s.slots[i] = .pending f ∧ (offer s).slots[i] = .inFlight f
          ∧ (offer s).bi.driven = some (drivenFrame i.val f.kind s.sr.address.val f.payload))
    ∧ ∀ c c' k k' a a' : Nat, a < 64 → a' < 64 → a ≠ a' → identifier c k a ≠ identifier c' k' a'

/-- Table 10-2 with R143 and R196: a peer that decodes the node's SUMMARY reads the parcel, role, published state,
current plan revision and D it was built from, and its bytes hold SATURATED, CLOSED-WHILE-HELD, S_adj and H; one that
decodes its ANNOUNCE reads the role and published states, and its bytes hold ESD, WITHHELD and OVERRUN and the counts of
tank and meter records with a current declaration and of terms held. -/
def Obligations.PeersReadWhatNodeSends : Prop :=
  (∀ (role : Role) (p : ParcelNo) (r : ParcelRec) (c : Copy ParcelDecl), r.decl.current = some c →
    let f := r.published.figures
    f.sAdj.natAbs ≤ 2147483647 → f.h.natAbs ≤ 2147483647 → f.d.natAbs ≤ 2147483647 →
    let payload := summaryPayload role p r
    payload.length = 15
      ∧ decodeSummary payload = ⟨p, some role, some r.published.state, c.rev, f.d⟩
      ∧ (byteAt payload 1).getLsbD 6 = f.saturated
      ∧ (byteAt payload 1).getLsbD 7 = r.published.closedWhileHeld
      ∧ signed32At payload 3 = f.sAdj
      ∧ signed32At payload 7 = f.h)
    ∧ ∀ (s : State) (withheld overrun : Bool), TablesSound s →
        let payload := announcePayload s withheld overrun
        payload.length = 8
          ∧ (decodeAnnounce payload).role = some s.sr.role
          ∧ (∀ p : ParcelNo, (decodeAnnounce payload).states[p] = some s.parcels[p].published.state)
          ∧ (byteAt payload 0).getLsbD 4 = decide (s.sr.esdLevel = .asserted)
          ∧ (byteAt payload 0).getLsbD 5 = withheld
          ∧ (byteAt payload 0).getLsbD 6 = overrun
          ∧ (byteAt payload 5).toNat = s.tanks.countP (fun r => r.decl.current.isSome)
          ∧ (byteAt payload 6).toNat = s.meters.countP (fun r => r.decl.current.isSome)
          ∧ (byteAt payload 7).toNat
              = (List.finRange 24).countP fun q => (s.terms[q]).term.isSome

/-! ### Chapter 10: reception -/

/-- Out of R168 and R175: a good frame of another station completes whatever its owner does with it, sets its
station's age to 0 and no other's, and sets the last role heard by a SUMMARY or ANNOUNCE alone. An ANSWER or ALERT
frame does nothing else. That the owner takes the payload with no event after the heard report is the model's
(log 26). -/
def Obligations.GoodFramesAreHeard : Prop :=
  (∀ (c : Instr) (k : FrameKind) (f : Frame) (a : Station) (s : State),
    frameOf c = some (k, f) → From k f a s →
      ∃ t, exec c s = .next t
        ∧ t.fresh[a].age = 0
        ∧ (∀ b : Station, b ≠ a → t.fresh[b] = s.fresh[b])
        ∧ (k = .summary → t.fresh[a].lastRole
            = match (decodeSummary f.payload).role with | some r => some r | none => s.fresh[a].lastRole)
        ∧ (k = .announce → t.fresh[a].lastRole
            = match (decodeAnnounce f.payload).role with | some r => some r | none => s.fresh[a].lastRole)
        ∧ (k ≠ .summary → k ≠ .announce → t.fresh[a].lastRole = s.fresh[a].lastRole))
    ∧ (∀ (f : Frame) (a : Station) (s : State), From .answer f a s →
        exec (.answerFrame f) s = .next (heardFrom a s))
    ∧ ∀ (f : Frame) (a : Station) (s : State), From .alert f a s →
        exec (.alertFrame f) s = .next (heardFrom a s)

/-- Out of R174: the tests of a good frame; a frame that fails one reaches no owner and changes nothing but the
receive buffer, which is empty again; and where no frame has begun since an idle bus, as after either reset, or
where the frame on the bus is the node's own, no frame is judged and nothing changes. That such a command then does
nothing is the model's (log 3, log 12). -/
def Obligations.BadFramesAreDiscarded : Prop :=
  (∀ r : RawFrame, isGood r = true ↔
    (r.ending = 0x7F#7 ∧ r.len.toNat ≤ 16 ∧ r.payload.length = r.len.toNat
      ∧ r.check = checkOf (coveredBits r.cls.toNat r.kind.toNat r.src.toNat r.len.toNat r.payload)
      ∧ 1 ≤ r.kind.toNat ∧ r.kind.toNat ≤ 14 ∧ r.src.toNat ≤ 62
      ∧ ∃ k, kindCode k = r.kind.toNat ∧ lengthOk k r.len.toNat = true))
    ∧ (∀ (r : RawFrame) (s : State), isGood r = false → Receiving s → Calm s →
        exec (.badFrame r) s = .next { s with bi := { s.bi with receiving := false } })
    ∧ (∀ (c : Instr) (k : FrameKind) (f : Frame) (s : State), frameOf c = some (k, f) → Receiving s → Calm s →
        lengthOk k f.payload.length = false ∨ f.src.toNat = 63 →
        exec c s = .next { s with bi := { s.bi with receiving := false } })
    ∧ ∀ (c : Instr) (s : State), (frameOf c).isSome = true ∨ (∃ r, c = .badFrame r ∨ c = .addressClash r) →
        Calm s → ¬Receiving s → exec c s = .next s

/-- R176: a good frame of the node's own address, received while the transmit state is IDLE, reaches no owner, makes no
heard report and sets MUTE, with which ALERT_N is asserted; the node's own frames, read back while it sends, are not
received and change nothing. That a frame is received only where one has begun, and empties the receive buffer at its
judgement, is R174. -/
def Obligations.AddressClashMutes : Prop :=
  (∀ (r : RawFrame) (s : State), isGood r = true → r.src.toNat = s.sr.address.val → Receiving s → Calm s →
    exec (.addressClash r) s = .next { s with
      bi := { s.bi with receiving := false, mute := true, tx := .idle, driven := none }
      alertN := true })
    ∧ ∀ (c : Instr) (k : FrameKind) (f : Frame) (s : State), frameOf c = some (k, f) → Calm s →
        lengthOk k f.payload.length = true → f.src.toNat = s.sr.address.val →
        (Receiving s → exec c s = .next { s with
          bi := { s.bi with receiving := false, mute := true, tx := .idle, driven := none }
          alertN := true })
          ∧ (s.bi.tx ≠ .idle → exec c s = .next s)

/-! ### Reports -/

/-- Out of R186 with Tables 10-1 and 10-2: the fields of the payloads that reach an owner, byte by byte: `b i` is byte
`i`, a number of several bytes has its most significant byte first, and a signed one is in two's complement. The fields
of SUMMARY and ANNOUNCE payloads have a statement with the frames the node sends. -/
def Obligations.PayloadsAreReadByLayout : Prop :=
  ∀ p : List Byte,
    let b := fun i => (byteAt p i).toNat
    let word := fun i => b i * 256 + b (i + 1)
    let signed := fun i => if 32768 ≤ word i then (word i : Int) - 65536 else (word i : Int)
    let bit := fun i n => b i / 2 ^ n % 2 = 1
    let key := fun i (k : Option Key) => if 252 ≤ b i then k = none
      else ∃ x : Key, k = some x ∧ x.station.val = b i / 4 ∧ x.index.val = b i % 4
    (let m := decodeGauge p;
      m.index.val = b 0 % 4 ∧ (m.valid = true ↔ bit 0 7) ∧ m.seq.toNat = b 1
        ∧ m.reading.volume = word 2 * 65536 + word 4
        ∧ m.reading.freeWater = b 6 * 65536 + word 7 ∧ m.reading.temp = signed 9)
    ∧ (let m := decodeMeter p;
      m.index.val = b 0 % 4 ∧ (m.valid = true ↔ bit 0 7) ∧ m.seq.toNat = b 1
        ∧ m.reading.cumulative.toNat = b 2 * 65536 + word 3 ∧ m.reading.temp = signed 5)
    ∧ (let m := decodeValve p;
      m.seq.toNat = b 0 ∧ ∀ v : Fin 16,
        let code := b (1 + v.val / 4) / 4 ^ (v.val % 4) % 4;
        m.states[v] = if code = 0 then .opened else if code = 1 then .closed
          else if code = 2 then .moving else .fault)
    ∧ (let m := decodeDMeter p;
      key 0 m.key ∧ m.copy.rev.toNat = b 1 ∧ (m.copy.contents.remove = true ↔ bit 2 0)
        ∧ m.copy.contents.factor = b 3 * 65536 + word 4)
    ∧ (let m := decodeDTank p;
      key 0 m.key ∧ m.copy.rev.toNat = b 1 ∧ (m.copy.contents.remove = true ↔ bit 2 7)
        ∧ m.copy.contents.side = b 2 % 4 ∧ m.copy.contents.parcel = b 3 % 16)
    ∧ (let m := decodeDParcel p;
      let d := m.copy.contents;
      (∃ q : ParcelNo, m.key = some q ∧ q.val = b 0 % 8) ∧ m.copy.rev.toNat = b 1
        ∧ (d.direction = .discharge ↔ bit 2 0) ∧ d.cls.val = b 2 / 2 % 4 ∧ (d.basis = .meter ↔ bit 2 3)
        ∧ d.option.val = b 2 / 16 % 4 ∧ (d.mask = true ↔ bit 2 6) ∧ d.depthCode.val = b 3 % 4
        ∧ d.density = word 4 ∧ d.vef = word 6 ∧ d.tolerance = b 8 ∧ d.floor = word 9 ∧ d.grade.toNat = b 11)
    ∧ (let m := decodeDRoute p;
      let d := m.copy.contents;
      (if 24 ≤ b 0 then m.key = none else ∃ t : TermPos, m.key = some t ∧ t.val = b 0)
        ∧ m.copy.rev.toNat = b 1 ∧ d.meterStation = b 2 / 4 ∧ d.meterIndex.val = b 2 % 4
        ∧ d.parcel = b 3 % 16 ∧ d.count = b 3 / 16 ∧ (4 < d.count → d.literals = [])
        ∧ (d.count ≤ 4 → d.literals.length = d.count ∧ ∀ (i : Nat) (l : LiteralCode), d.literals[i]? = some l →
            l.station = b (4 + 2 * i) / 4 ∧ l.required = b (4 + 2 * i) % 4 ∧ l.valve.val = b (5 + 2 * i) % 16))
    ∧ (let m := decodeMark p;
      m.parcel.val = b 0 % 8 ∧ m.expected.toNat = b 2
        ∧ m.kind = if b 1 = 1 then some .openParcel else if b 1 = 2 then some .closeParcel
          else if b 1 = 3 then some .releaseParcel else none)
    ∧ (let m := decodeCadence p;
      m.target = b 0 % 64 ∧ m.timer.val = b 1 % 4 ∧ (m.params.mode = .count ↔ bit 1 2)
        ∧ (m.params.prescale = .by100 ↔ bit 1 3) ∧ (m.halt = true ↔ bit 1 6) ∧ (m.now = true ↔ bit 1 7)
        ∧ m.params.constant = (if b 2 = 0 then 256 else b 2) ∧ m.staleLimit = b 3 % 16)
    ∧ let m := decodeQuery p
      m.target = b 0 % 64 ∧ m.subject.toNat = b 2
        ∧ m.kind = if b 1 = 1 then some .parcel else if b 1 = 2 then some .tank else if b 1 = 3 then some .meter
          else if b 1 = 4 then some .term else if b 1 = 5 then some .node
          else if b 1 = 6 then some .timer else none

/-- Table 3-1 (R46 to R51): the outcome of a GAUGE frame, row by row. -/
def Obligations.GaugeFrameOutcomes : Prop :=
  ∀ (f : Frame) (a : Station) (s : State), From .gauge f a s →
    let m := decodeGauge f.payload
    let h := heardFrom a s
    (s.tank? ⟨a, m.index⟩ = none → exec (.gauge f) s = .next h)
      ∧ ∀ r, s.tank? ⟨a, m.index⟩ = some r →
        (r.work = none → exec (.gauge f) s = .next h)
        ∧ ∀ w, r.work = some w →
          let taken := { w with lastSeq := some m.seq }
          let accepted := { taken with reading := some m.reading, gaugeInvalid := false, confirm := 0 }
          (seqTaken w.lastSeq m.seq = false → exec (.gauge f) s = .next h)
          ∧ (seqTaken w.lastSeq m.seq = true → m.valid = false →
              exec (.gauge f) s = .next (h.putTank
                { r with work := some { taken with gaugeInvalid := true, confirm := 0 } }))
          ∧ (seqTaken w.lastSeq m.seq = true → m.valid = true → w.reading = none →
              exec (.gauge f) s = .next (h.putTank { r with work := some accepted }))
          ∧ ∀ last, seqTaken w.lastSeq m.seq = true → m.valid = true → w.reading = some last →
              let step := ((m.reading.volume : Int) - last.volume).natAbs
              (step ≤ 50000 → exec (.gauge f) s = .next (h.putTank { r with work := some accepted }))
              ∧ (50000 < step → w.confirm ≤ 1 →
                  exec (.gauge f) s = .next (h.putTank
                    { r with work := some { taken with confirm := w.confirm + 1 } }))
              ∧ (50000 < step → w.confirm = 2 →
                  exec (.gauge f) s = .next (h.putTank
                    { r with work := some { accepted with rebased := true } }))

/-- R63, R64 and R68: a METER frame is looked up by its key and its sequence; one taken in replaces the latest
reading, or makes it absent where VALID is clear; and an accepted one is a count event of T0. A VALVE frame is looked up
by its station; a newer one, or the first one, replaces all 16 states; and the snapshot gives every entry's states and
whether it holds a last sequence taken. -/
def Obligations.MeterAndValveFrameOutcomes : Prop :=
  (∀ (f : Frame) (a : Station) (s : State), From .meter f a s →
      let m := decodeMeter f.payload
      let h := heardFrom a s
      (s.meter? ⟨a, m.index⟩ = none → exec (.meter f) s = .next h)
        ∧ ∀ r, s.meter? ⟨a, m.index⟩ = some r →
          (r.work = none → exec (.meter f) s = .next h)
          ∧ ∀ w, r.work = some w →
            (seqTaken w.lastSeq m.seq = false → exec (.meter f) s = .next h)
            ∧ (seqTaken w.lastSeq m.seq = true → m.valid = false →
                exec (.meter f) s = .next (h.putMeter
                  { r with work := some { w with lastSeq := some m.seq, reading := none } }))
            ∧ (seqTaken w.lastSeq m.seq = true → m.valid = true →
                exec (.meter f) s = .next ((h.putMeter
                  { r with work := some { w with lastSeq := some m.seq, reading := some m.reading } }).mapTimer 0
                    Timer.countEvent)))
    ∧ (∀ (f : Frame) (a : Station) (s : State), From .valve f a s →
    let m := decodeValve f.payload
    let h := heardFrom a s
    (s.valve? a = none → exec (.valve f) s = .next h)
      ∧ ∀ e, s.valve? a = some e →
        (∀ q, e.lastSeq = some q → newer m.seq q = false → exec (.valve f) s = .next h)
        ∧ (e.lastSeq = none ∨ (∃ q, e.lastSeq = some q ∧ newer m.seq q = true) →
            exec (.valve f) s = .next (h.putValve { e with states := m.states, lastSeq := some m.seq })))
    ∧ (∀ r q : Byte, newer r q = true ↔ 1 ≤ (r.toNat + 256 - q.toNat) % 256 ∧ (r.toNat + 256 - q.toNat) % 256 ≤ 127)
    ∧ ∀ s : State, (takeSnapshot s).valves = s.valves.map fun e => ⟨e.station, e.states, e.lastSeq.isSome⟩

/-! ### Chapter 2: declarations at arrival -/

/-- Out of R28 to R34 for meters and tanks: a first declaration makes a staged-only record where the table has a
place, is refused TABLE-FULL (code 1) where it has none and is ignored where it has REMOVE set; one for a record is
staged, ignored or reported as a clash (code 0) by its revision and contents. -/
def Obligations.MeterAndTankDeclarationsArrive : Prop :=
  (∀ (f : Frame) (a : Station) (s : State), From .dmeter f a s →
    let m := decodeDMeter f.payload
    let h := heardFrom a s
    let reported := fun (cause : Cause) (subject : Subject) (code : Nat) =>
      queueAlert cause subject ((m.copy.rev.toNat + 256 * code : Nat) : Int) h
    (m.key = none → exec (.dmeter f) s = .next h)
      ∧ ∀ k, m.key = some k →
        (s.meter? k = none →
          (m.copy.contents.remove = true → exec (.dmeter f) s = .next h)
          ∧ (m.copy.contents.remove = false → s.meters.length < 12 →
              exec (.dmeter f) s = .next (h.putMeter ⟨k, ⟨none, some m.copy, none⟩, none⟩))
          ∧ (m.copy.contents.remove = false → 12 ≤ s.meters.length →
              exec (.dmeter f) s = .next (reported .planReject (.meter k) 1)))
        ∧ ∀ r, s.meter? k = some r →
          Arrives (fun x y => (x.remove = true ∧ y.remove = true) ∨ x = y) r.decl m.copy (exec (.dmeter f) s)
            (.next (h.putMeter { r with decl := { r.decl with staged := some m.copy } }))
            (.next h) (.next (reported .planClash (.meter k) 0)))
    ∧ ∀ (f : Frame) (a : Station) (s : State), From .dtank f a s →
      let m := decodeDTank f.payload
      let h := heardFrom a s
      let reported := fun (cause : Cause) (subject : Subject) (code : Nat) =>
        queueAlert cause subject ((m.copy.rev.toNat + 256 * code : Nat) : Int) h
      (m.key = none → exec (.dtank f) s = .next h)
        ∧ ∀ k, m.key = some k →
          (s.tank? k = none →
            (m.copy.contents.remove = true → exec (.dtank f) s = .next h)
            ∧ (m.copy.contents.remove = false → s.tanks.length < 48 →
                exec (.dtank f) s = .next (h.putTank ⟨k, ⟨none, some m.copy, none⟩, none⟩))
            ∧ (m.copy.contents.remove = false → 48 ≤ s.tanks.length →
                exec (.dtank f) s = .next (reported .planReject (.tank k) 1)))
          ∧ ∀ r, s.tank? k = some r →
            Arrives (fun x y => (x.remove = true ∧ y.remove = true) ∨ x = y) r.decl m.copy (exec (.dtank f) s)
              (.next (h.putTank { r with decl := { r.decl with staged := some m.copy } }))
              (.next h) (.next (reported .planClash (.tank k) 0))

/-- Out of R28 and R30 to R34 for parcels and route terms: a declaration is staged, ignored or reported as a clash,
whose value is the shared revision, by its revision and contents, and a DROUTE whose position lies outside 0..23 is
discarded. That two DROUTE copies of parcel NONE are compared in every field they code is the model's (log 13). -/
def Obligations.ParcelAndTermDeclarationsArrive : Prop :=
  (∀ (f : Frame) (a : Station) (s : State), From .dparcel f a s →
    let m := decodeDParcel f.payload
    let h := heardFrom a s
    ∃ q : ParcelNo, m.key = some q ∧ q.val = (byteAt f.payload 0).toNat % 8
      ∧ Arrives (· = ·) s.parcels[q].decl m.copy (exec (.dparcel f) s)
          (.next (h.putParcel q
            { s.parcels[q] with decl := { s.parcels[q].decl with staged := some m.copy } }))
          (.next h) (.next (queueAlert .planClash (.parcel q) (m.copy.rev.toNat : Int) h)))
    ∧ ∀ (f : Frame) (a : Station) (s : State), From .droute f a s →
      let m := decodeDRoute f.payload
      let h := heardFrom a s
      (24 ≤ (byteAt f.payload 0).toNat → exec (.droute f) s = .next h)
        ∧ ∀ q : TermPos, (byteAt f.payload 0).toNat = q.val →
          Arrives (· = ·) s.terms[q].decl m.copy (exec (.droute f) s)
            (.next (h.putTerm q { s.terms[q] with decl := { s.terms[q].decl with staged := some m.copy } }))
            (.next h) (.next (queueAlert .planClash (.term q) (m.copy.rev.toNat : Int) h))

/-- R96: a MARK frame becomes the pending mark of its parcel in every state, in place of any pending mark, and a
mark code that names none leaves the pending mark as it was. -/
def Obligations.MarkFrameIsPending : Prop :=
  ∀ (f : Frame) (a : Station) (s : State), From .mark f a s →
    let h := heardFrom a s
    ∃ p : ParcelNo, p.val = (byteAt f.payload 0).toNat % 8
      ∧ (∀ k, markOfCode (byteAt f.payload 1).toNat = some k →
          exec (.mark f) s = .next (h.putParcel p
            { s.parcels[p] with pendingMark := some ⟨k, byteAt f.payload 2⟩ }))
      ∧ (markOfCode (byteAt f.payload 1).toNat = none → exec (.mark f) s = .next h)

/-! ### Chapter 11: the alert queue -/

/-- R188 and R189: an alert replaces the record of its cause and subject in place, with WITHHELD set where that
record is the head; else it is appended while fewer than 16 records are queued, and loaded at once into an
empty queue's slot; else it is dropped and WITHHELD is set; and the queue keeps at most 16 records, no two of one
cause and subject. -/
def Obligations.AlertQueueTakesAlerts : Prop :=
  ∀ (cause : Cause) (subject : Subject) (value : Int) (s : State),
    let r : AlertRec := ⟨cause, subject, value, s.sr.clock⟩
    (s.aq.records = [] → s.slots[(0 : Fin 4)] = .empty →
      queueAlert cause subject value s = offer { s with
        aq := { s.aq with records := [r] }
        slots := setPlace s.slots 0 (.pending (alertFrame r)) })
    ∧ (∀ before x after, s.aq.records = before ++ x :: after → x.cause = cause → x.subject = subject →
        (∀ y ∈ before ++ after, ¬(y.cause = cause ∧ y.subject = subject)) →
        queueAlert cause subject value s = { s with
          aq := ⟨before ++ r :: after, s.aq.withheld || decide (before = [])⟩ })
    ∧ (∀ head rest, s.aq.records = head :: rest →
        (∀ y ∈ s.aq.records, ¬(y.cause = cause ∧ y.subject = subject)) →
        (s.aq.records.length < 16 →
          queueAlert cause subject value s = { s with aq := ⟨s.aq.records ++ [r], s.aq.withheld⟩ })
        ∧ (16 ≤ s.aq.records.length →
          queueAlert cause subject value s = { s with aq := ⟨s.aq.records, true⟩ }))
    ∧ (s.aq.records.length ≤ 16 → s.aq.records.Pairwise (fun a b => ¬(a.cause = b.cause ∧ a.subject = b.subject)) →
        let t := queueAlert cause subject value s
        t.aq.records.length ≤ 16
          ∧ t.aq.records.Pairwise fun a b => ¬(a.cause = b.cause ∧ a.subject = b.subject))

/-! ### Chapter 8: peers -/

/-- Out of R146 and R151: the cases of a SUMMARY from another station, the first that applies deciding; the state
with the sender's role heard is `h`. An ANNOUNCE removes the announcing station's entries for the parcels it shows
VACANT, creates none and changes no field of the others. -/
def Obligations.PeerFrameCases : Prop :=
  (∀ (f : Frame) (a : Station) (s : State), From .summary f a s →
      let m := decodeSummary f.payload
      let h := heardRole a m.role (heardFrom a s)
      (m.role = none ∨ m.state = none → exec (.summaryFrame f) s = .next h)
      ∧ ∀ role state, m.role = some role → m.state = some state →
        (state = .vacant → exec (.summaryFrame f) s = .next { h with
          peers := s.peers.filter fun e => decide (¬(e.peer = a ∧ e.parcel = m.parcel)) })
        ∧ (state ≠ .vacant → s.parcels[m.parcel].state = .vacant → exec (.summaryFrame f) s = .next h)
        ∧ (state ≠ .vacant → s.parcels[m.parcel].state ≠ .vacant →
            (∀ e, s.peer? a m.parcel = some e →
              exec (.summaryFrame f) s = .next (updateEntry e m role state h))
            ∧ (s.peer? a m.parcel = none → s.peers.length < 16 →
              exec (.summaryFrame f) s
                = .next (updateEntry ⟨a, m.parcel, role, 0, state, 0, 0, false⟩ m role state h))
            ∧ (s.peer? a m.parcel = none → 16 ≤ s.peers.length → exec (.summaryFrame f) s = .next h)))
    ∧ ∀ (f : Frame) (a : Station) (s : State), From .announce f a s →
    let m := decodeAnnounce f.payload
    exec (.announceFrame f) s = .next { heardRole a m.role (heardFrom a s) with
      peers := s.peers.filter fun e => decide (¬(e.peer = a ∧ m.states[e.parcel] = some .vacant)) }

/-- Out of R147 and R148: the update of a peer entry: the role check, the store, the revision test, the state test and
the comparison against half the own published band, which latches PEER-DIVERGE as the count rises from 2 to 3. -/
def Obligations.PeerEntryUpdate : Prop :=
  ∀ (e : PeerEntry) (m : SummaryMsg) (role : Role) (state : ParcelState) (h : State),
    let own := h.parcels[e.parcel]
    let u : PeerEntry :=
      { e with
        role := role
        planRev := m.planRev
        state := state
        d := max m.d (-2147483647)
        count := if e.role = role then e.count else 0
        planDiffers := decide (own.decl.current.map (·.rev) ≠ some m.planRev) }
    let compares := (∃ c, own.decl.current = some c ∧ c.rev = m.planRev)
      ∧ (state = .active ∨ state = .closed)
      ∧ (own.published.state = .active ∨ own.published.state = .closed)
    let magnitude := (own.published.figures.d - u.d).natAbs
    let threshold := own.published.figures.band / 2
    (¬compares → updateEntry e m role state h = h.putPeer u)
    ∧ (compares → magnitude ≤ threshold → updateEntry e m role state h = h.putPeer { u with count := 0 })
    ∧ (compares → threshold < magnitude → u.count ≤ 1 →
        updateEntry e m role state h = h.putPeer { u with count := u.count + 1 })
    ∧ (compares → threshold < magnitude → u.count = 2 →
        updateEntry e m role state h
          = queueAlert .peerDiverge (.parcel e.parcel) (e.peer.val : Int)
              (driveAlertN ((h.putPeer { u with count := 3 }).putParcel e.parcel { own with peerDiverge := true })))
    ∧ (compares → threshold < magnitude → u.count = 3 →
        updateEntry e m role state h = h.putPeer { u with count := 3 })

/-! ### Chapter 9: cadence timers -/

/-- R161 to R164: a CADENCE frame for another node is ignored; one for this node acts on the timer it names as
its HALT and NOW flags say, and one for T3 is remembered (R156). The stale limit of a frame for T2 has a
statement of its own. -/
def Obligations.CadenceFramesSetTimers : Prop :=
  ∀ (f : Frame) (a : Station) (s : State) (c : Instr), From .cadence f a s →
    c = .cadenceHalt f ∨ c = .cadenceNow f ∨ c = .cadenceResume f →
    let m := decodeCadence f.payload
    let h := heardFrom a s
    let t := s.ct.timers[m.timer]
    (m.target ≠ s.sr.address.val → exec c s = .next h)
      ∧ (m.target = s.sr.address.val → m.timer ≠ 2 ∨ m.staleLimit = 0 →
          let after : Timer → Host.Outcome State Fault Refusal := fun u => .next { h with
            ct := { s.ct with
              timers := setPlace s.ct.timers m.timer u
              t3Set := s.ct.t3Set || decide (m.timer = 3) } }
          (m.halt = true → exec c s = after { t with run := .halted, pendingSet := some m.params })
          ∧ (m.halt = false → m.now = true → exec c s = after
              { t with
                params := m.params
                pendingSet := none
                count := m.params.constant
                phase := 0
                run := .running })
          ∧ (m.halt = false → m.now = false →
              exec c s = after { t with run := .running, pendingSet := some m.params }))

/-- Out of R165, R166, R169 and R170: a CADENCE frame for T2 with a stale limit of 1..15 puts it in force at once, and
a T2 zero ages every station by 1 up to 15; the stations that turn stale are handled one after another in ascending
address, each with a STALE alert where something references it, judged before its peer entries are removed. -/
def Obligations.StationsTurnStale : Prop :=
  (∀ (f : Frame) (a : Station) (s : State) (c : Instr), From .cadence f a s →
    c = .cadenceHalt f ∨ c = .cadenceNow f ∨ c = .cadenceResume f →
    let m := decodeCadence f.payload
    m.target = s.sr.address.val → m.timer = 2 → m.staleLimit ≠ 0 →
    let h := (heardFrom a s).mapTimer 2 fun t => t.cadence m
    let limited := { h with ct := { h.ct with staleLimit := m.staleLimit } }
    exec c s = .next ((turnedStale h limited).foldl goStale limited))
    ∧ (∀ s : State, s.told = none → s.ct.timers[(2 : Fin 4)].zeroDue = true →
        let h := s.mapTimer 2 Timer.reload
        let aged := { h with fresh := mapPlaces s.fresh fun _ e => { e with age := min (e.age + 1) 15 } }
        exec .t2Zero s = .next ((turnedStale h aged).foldl goStale aged))
    ∧ ∀ (s : State) (a : Station),
        let tank := ∃ r ∈ s.tanks, r.key.station = a ∧ r.decl.current.isSome = true
        let meter := ∃ r ∈ s.meters, r.key.station = a ∧ r.decl.current.isSome = true
        let valve := ∃ e ∈ s.valves, e.station = a
        let peer := ∃ e ∈ s.peers, e.peer = a
        let without := fun t : State => { t with peers := s.peers.filter fun e => decide (e.peer ≠ a) }
        (¬tank ∧ ¬meter ∧ ¬valve ∧ ¬peer → goStale s a = s)
        ∧ (tank ∨ meter ∨ valve ∨ peer → ∃ value : Nat,
            goStale s a = without (queueAlert .stale (.station a) (value : Int) s)
              ∧ (value % 2 = 1 ↔ tank) ∧ (value / 2 % 2 = 1 ↔ meter) ∧ (value / 4 % 2 = 1 ↔ valve)
              ∧ (value / 8 % 2 = 1 ↔ peer)
              ∧ value / 16 = match s.fresh[a].lastRole with
                  | none => 0 | some .ship => 1 | some .shore => 2 | some .independent => 3)

/-- Out of R157 to R160, R197, R198 and R199: a tick of the 1 ms reference raises the clock and the phase of every
timer in TIME mode and RUNNING, whose count it lowers at each prescaler output; a timer in COUNT mode or HALTED
takes no tick; a count event lowers the count of a RUNNING timer in COUNT mode; and from its constant with phase 0
a timer's zero falls due after prescale × constant ticks, and after as many again while no other parameters are
pending. A decrement from 1 is the zero itself, which falls due here and is the next act (log 2); that a tick
counts the stagger down to 0 and an ESD measurement up to 20 is the model's way to the 250 ms per address of
section 12.3 and the 20 ms of section 12.2 (log 19). -/
def Obligations.TicksRunTimersDown : Prop :=
  (∀ s : State, Calm s → exec .referenceTick s = .next { s with
    sr := { s.sr with
      clock := s.sr.clock + 1
      stagger := match s.sr.stagger with | .running n => .running (n - 1) | .ended => .ended
      esdTimer := s.sr.esdTimer.map fun n => min (n + 1) 20 }
    ct := { s.ct with timers := mapPlaces s.ct.timers fun _ t => t.tick } })
    ∧ (∀ t : Timer, t.run = .halted ∨ t.params.mode = .count → t.tick = t)
    ∧ (∀ t : Timer, t.run = .halted ∨ t.params.mode = .time → t.countEvent = t)
    ∧ (∀ t : Timer, t.run = .running → t.params.mode = .time →
        (t.phase + 1 < prescaleOf t.params.prescale → t.tick = { t with phase := t.phase + 1 })
        ∧ (t.phase + 1 = prescaleOf t.params.prescale → 1 < t.count →
            t.tick = { t with phase := 0, count := t.count - 1 })
        ∧ (t.phase + 1 = prescaleOf t.params.prescale → t.count = 1 →
            t.tick = { t with phase := 0, zeroDue := true }))
    ∧ (∀ t : Timer, t.run = .running → t.params.mode = .count →
        (1 < t.count → t.countEvent = { t with count := t.count - 1 })
        ∧ (t.count = 1 → t.countEvent = { t with zeroDue := true }))
    ∧ ∀ (s t : State) (i : TimerNo) (n : Nat), s.ct.timers[i].run = .running →
        s.ct.timers[i].params.mode = .time → s.ct.timers[i].zeroDue = false → s.ct.timers[i].phase = 0 →
        s.ct.timers[i].count = s.ct.timers[i].params.constant → 1 ≤ s.ct.timers[i].params.constant → T3Waits s →
        again n .referenceTick s = .next t →
        let period := prescaleOf s.ct.timers[i].params.prescale * s.ct.timers[i].params.constant
        (n ≤ period → (t.ct.timers[i].zeroDue = true ↔ n = period))
          ∧ (s.ct.timers[i].pendingSet = none → 1 ≤ n → (t.ct.timers[i].zeroDue = true ↔ n % period = 0))

/-- Out of R155 and R159: the timer's own part in a zero, which is the decrement from 1 with its reload in one act:
a pending parameter set becomes current, the count is set to the constant of the current set and the phase is 0.
R106: a T0 zero begins a pass, sets pass-pending or sets OVERRUN by the engine's state, and is a count event of T2
in every case. -/
def Obligations.T0ZeroAsksForPass : Prop :=
  (∀ t : Timer,
    (∀ p, t.pendingSet = some p →
      t.reload = { t with params := p, pendingSet := none, count := p.constant, phase := 0, zeroDue := false })
    ∧ (t.pendingSet = none →
      t.reload = { t with count := t.params.constant, phase := 0, zeroDue := false }))
    ∧ ∀ s : State, s.told = none → s.ct.timers[(0 : Fin 4)].zeroDue = true →
      let z := s.mapTimer 0 Timer.reload
      (s.ee.pass = .idle → exec .t0Zero s = .next ((beginPass z).mapTimer 2 Timer.countEvent))
      ∧ (s.ee.pass ≠ .idle → s.ee.pending = false →
          exec .t0Zero s = .next ({ z with ee := { s.ee with pending := true } }.mapTimer 2 Timer.countEvent))
      ∧ (s.ee.pass ≠ .idle → s.ee.pending = true →
          exec .t0Zero s = .next ({ z with ee := { s.ee with overrun := true } }.mapTimer 2 Timer.countEvent))

/-- Out of R110, R35 and R97: the act that begins a pass moves every staged copy into its record's hand-over copy
and every pending mark to its parcel's mark in hand, and changes nothing else but the pass state and its count of
records dealt with, the model's own field (log 10). -/
def Obligations.PassStartTakesStagedCopies : Prop :=
  ∀ s : State,
    let moved := fun {α : Type} (d : Decls α) =>
      (⟨d.current, none, if d.staged.isSome then d.staged else d.handOver⟩ : Decls α)
    beginPass s = { s with
      ee := { s.ee with pass := .running .handOver, visited := 0 }
      tanks := s.tanks.map fun r => { r with decl := moved r.decl }
      meters := s.meters.map fun r => { r with decl := moved r.decl }
      parcels := Vector.ofFn fun p : ParcelNo =>
        { s.parcels[p] with
          decl := moved s.parcels[p].decl
          inHand := s.parcels[p].pendingMark
          pendingMark := none }
      terms := Vector.ofFn fun t : TermPos => { s.terms[t] with decl := moved s.terms[t].decl } }

/-- Out of R141 to R143: a T1 zero begins a summary round, whose search loads the SUMMARY of the lowest parcel not
published VACANT, or marks a round pending while one runs; and it is a count event of T3. Out of R185, R196 and
R107: a T3 zero places an ANNOUNCE in an empty slot 3, or in place of a pending one whose flags it takes over, and
clears WITHHELD and OVERRUN; with a frame in flight it builds nothing and clears neither. -/
def Obligations.T1AndT3ZerosLoadFrames : Prop :=
  (∀ s : State, s.told = none → s.ct.timers[(1 : Fin 4)].zeroDue = true →
      let z := s.mapTimer 1 Timer.reload
      (s.round.running = true →
        exec .t1Zero s = .next ({ z with round := { s.round with pending := true } }.mapTimer 3 Timer.countEvent))
      ∧ (s.round.running = false → (∀ q : ParcelNo, s.parcels[q].published.state = .vacant) →
          exec .t1Zero s = .next ({ z with round := ⟨false, 0, false⟩ }.mapTimer 3 Timer.countEvent))
      ∧ ∀ p : ParcelNo, s.round.running = false → s.slots[(2 : Fin 4)] = .empty →
          s.parcels[p].published.state ≠ .vacant →
          (∀ q : ParcelNo, q < p → s.parcels[q].published.state = .vacant) →
          exec .t1Zero s = .next ((offer { z with
            round := ⟨true, p.val + 1, false⟩
            slots := setPlace s.slots 2
              (.pending ⟨.summary, summaryPayload s.sr.role p s.parcels[p]⟩) }).mapTimer 3 Timer.countEvent))
    ∧ ∀ s : State, s.told = none → s.ct.timers[(3 : Fin 4)].zeroDue = true →
    let z := s.mapTimer 3 Timer.reload
    let loaded := fun withheld overrun => offer { z with
      aq := { s.aq with withheld := false }
      ee := { s.ee with overrun := false }
      slots := setPlace s.slots 3 (.pending ⟨.announce, announcePayload s withheld overrun⟩) }
    (s.slots[(3 : Fin 4)] = .empty → exec .t3Zero s = .next (loaded s.aq.withheld s.ee.overrun))
    ∧ (∀ old, s.slots[(3 : Fin 4)] = .pending old →
        exec .t3Zero s = .next (loaded (s.aq.withheld || (byteAt old.payload 0).getLsbD 5)
          (s.ee.overrun || (byteAt old.payload 0).getLsbD 6)))
    ∧ (∀ old, s.slots[(3 : Fin 4)] = .inFlight old → exec .t3Zero s = .next z)

/-! ### Chapters 2 to 7: the evaluation pass -/

/-- Out of R35 and R109: stage 1 offers the hand-over copies to their owners in order, meters and tanks in key
order, then parcels, then terms, one by one, each decided on the record and the tables as they stand; with the last
of them, or where there is none, the pass goes on to stage 2; and by as many commands as there are copies no record
holds a hand-over copy any more. That one command offers one copy is the model's (log 10). -/
def Obligations.HandOverDecidesEveryCopy : Prop :=
  ∀ s : State, s.ee.pass = .running .handOver → Calm s → TablesSound s →
    let offers : List Offer :=
      (s.meters.filter fun r => r.decl.handOver.isSome).map (fun r => .meter r.key)
        ++ (s.tanks.filter fun r => r.decl.handOver.isSome).map (fun r => .tank r.key)
        ++ ((List.finRange 8).filter fun p => s.parcels[p].decl.handOver.isSome).map .parcel
        ++ ((List.finRange 24).filter fun q => s.terms[q].decl.handOver.isSome).map .term
    let ended := fun t : State => { t with ee := { t.ee with pass := .running .snapshot, visited := 0 } }
    (∀ r ∈ s.meters, decideOffer s (.meter r.key) = decideMeter s r)
      ∧ (∀ r ∈ s.tanks, decideOffer s (.tank r.key) = decideTank s r)
      ∧ (∀ p, decideOffer s (.parcel p) = decideParcel s p)
      ∧ (∀ q, decideOffer s (.term q) = decideTerm s q)
      ∧ (offers = [] → exec .handOver s = .next (ended s))
      ∧ (∀ o, offers = [o] → exec .handOver s = .next (ended (decideOffer s o)))
      ∧ (∀ o next rest, offers = o :: next :: rest → exec .handOver s = .next (decideOffer s o))
      ∧ let t := ended (offers.foldl decideOffer s)
        again (max 1 offers.length) .handOver s = .next t
          ∧ (∀ r ∈ t.meters, r.decl.handOver = none) ∧ (∀ r ∈ t.tanks, r.decl.handOver = none)
          ∧ (∀ p : ParcelNo, t.parcels[p].decl.handOver = none)
          ∧ ∀ q : TermPos, t.terms[q].decl.handOver = none

/-- Out of R34, R36 to R38, R61 and R62: the decision on a meter's copy: RANGE (code 2) for a factor outside
95,000..105,000, IN-USE (code 4) for a removal of a declared meter that a current term names, else accepted, with the
factor replaced and every other working field kept, or created, or the record deleted. That a record whose removal is
accepted stands staged-only where a newer copy was staged since the pass began is the model's reading (log 9). -/
def Obligations.MeterCopyDecision : Prop :=
  ∀ (s : State) (r : MeterRec) (c : Copy MeterDecl), r.decl.handOver = some c →
    let removed := match r.decl.staged with
      | some newer => s.putMeter ⟨r.key, ⟨none, some newer, none⟩, none⟩
      | none => s.dropMeter r.key
    let refused := fun code : Nat =>
      queueAlert .planReject (.meter r.key) ((c.rev.toNat + 256 * code : Nat) : Int)
        (if r.decl.current.isSome ∨ r.decl.staged.isSome then
          s.putMeter { r with decl := { r.decl with handOver := none } } else s.dropMeter r.key)
    let named := ∃ q : TermPos, ∃ t, s.terms[q].term = some t ∧ t.meter = r.key
    (c.contents.remove = true → r.decl.current.isSome = true → named → decideMeter s r = refused 4)
    ∧ (c.contents.remove = true → r.decl.current = none ∨ ¬named → decideMeter s r = removed)
    ∧ (c.contents.remove = false → c.contents.factor < 95000 ∨ 105000 < c.contents.factor →
        decideMeter s r = refused 2)
    ∧ (c.contents.remove = false → 95000 ≤ c.contents.factor → c.contents.factor ≤ 105000 →
        decideMeter s r = s.putMeter
          { r with
            decl := ⟨some c, r.decl.staged, none⟩
            work := some (match r.work with
              | some w => { w with factor := c.contents.factor }
              | none => ⟨c.contents.factor, none, none, none, 0, 0, 0, 0, 0, none, false, false, false⟩) })

/-- Out of R34, R36 to R38 and R41 to R45: the decision on a tank's copy: RANGE (code 2) for a side or parcel code that
names none, PROTECTED (code 3) for a change that an opened parcel bars, else accepted, with the readings kept and, where
the assignment changes, the volumes and flags dropped, or created, or the record deleted. That range is judged before
protection is the model's (log 8); that a record whose removal is accepted stands staged-only where a newer copy was
staged since the pass began is the model's reading (log 9). -/
def Obligations.TankCopyDecision : Prop :=
  ∀ (s : State) (r : TankRec) (c : Copy TankDecl), r.decl.handOver = some c →
    let removed := match r.decl.staged with
      | some newer => s.putTank ⟨r.key, ⟨none, some newer, none⟩, none⟩
      | none => s.dropTank r.key
    let refused := fun code : Nat =>
      queueAlert .planReject (.tank r.key) ((c.rev.toNat + 256 * code : Nat) : Int)
        (if r.decl.current.isSome ∨ r.decl.staged.isSome then
          s.putTank { r with decl := { r.decl with handOver := none } } else s.dropTank r.key)
    let accepted := fun w : TankWork =>
      s.putTank { r with decl := ⟨some c, r.decl.staged, none⟩, work := some w }
    let opened := fun p : Option ParcelNo => ∃ q, p = some q ∧
      (s.parcels[q].state = .active ∨ s.parcels[q].state = .held ∨ s.parcels[q].state = .closed)
    (c.contents.remove = true →
      (∀ w, r.work = some w → opened w.parcel → decideTank s r = refused 3)
      ∧ ((∀ w, r.work = some w → ¬opened w.parcel) → decideTank s r = removed))
    ∧ (c.contents.remove = false → 2 ≤ c.contents.side ∨ (8 ≤ c.contents.parcel ∧ c.contents.parcel ≠ 15) →
        decideTank s r = refused 2)
    ∧ ∀ (side : Side) (parcel : Option ParcelNo), c.contents.remove = false →
        c.contents.side = (match side with | .ship => 0 | .shore => 1) →
        c.contents.parcel = (match parcel with | some p => p.val | none => 15) →
        (r.work = none → opened parcel → decideTank s r = refused 3)
        ∧ (r.work = none → ¬opened parcel → decideTank s r = accepted
            ⟨side, parcel, none, none, 0, true, false, false, false, none, none⟩)
        ∧ ∀ w, r.work = some w →
          let barred := (opened w.parcel ∧ (parcel ≠ w.parcel ∨ side ≠ w.side)) ∨ (opened parcel ∧ parcel ≠ w.parcel)
          (barred → decideTank s r = refused 3)
          ∧ (¬barred → parcel = w.parcel → decideTank s r = accepted { w with side := side })
          ∧ (¬barred → parcel ≠ w.parcel → decideTank s r = accepted
              { w with
                side := side
                parcel := parcel
                current := none
                opening := none
                volumeClamped := false
                tempClamped := false
                rebased := false })

/-- R86 to R88 with R34, R132, R135 and R150: the decision on a parcel's copy: RANGE (code 2), then PROTECTED (code
3) for a change of direction, class, density or basis of an opened parcel, else accepted: parameters and α
replaced, VACANT to DECLARED, the parcel re-armed with its peer entries, ALERT_N following, and every other field
kept. -/
def Obligations.ParcelCopyDecision : Prop :=
  ∀ (s : State) (p : ParcelNo) (c : Copy ParcelDecl), s.parcels[p].decl.handOver = some c →
    let r := s.parcels[p]
    let d := c.contents
    let inRange := 6100 ≤ d.density ∧ d.density ≤ 11000 ∧ 9800 ≤ d.vef ∧ d.vef ≤ 10200 ∧ 5 ≤ d.tolerance
      ∧ d.tolerance ≤ 200 ∧ d.floor ≠ 0
    let barred := (r.state = .active ∨ r.state = .held ∨ r.state = .closed) ∧ ∃ old, r.decl.current = some old
      ∧ ¬(old.contents.direction = d.direction ∧ old.contents.cls = d.cls
        ∧ old.contents.density = d.density ∧ old.contents.basis = d.basis)
    let refused := fun code : Nat =>
      queueAlert .planReject (.parcel p) ((c.rev.toNat + 256 * code : Nat) : Int)
      (s.putParcel p { r with decl := { r.decl with handOver := none } })
    (¬inRange → decideParcel s p = refused 2)
    ∧ (inRange → barred → decideParcel s p = refused 3)
    ∧ (inRange → ¬barred →
        let t : State := { s.putParcel p
            { r with
              decl := ⟨some c, r.decl.staged, none⟩
              alpha := some (expansion d.cls d.density)
              state := if r.state = .vacant then .declared else r.state
              count := 0
              excursion := false
              peerDiverge := false
              holds := { r.holds with excursionHold := false } } with
          peers := s.peers.map fun e =>
            if e.parcel = p then { e with count := 0, planDiffers := decide (e.planRev ≠ c.rev) } else e };
        decideParcel s p = { t with alertN := alertCondition t })

/-- Out of R34, R36, R37, R67, R70 and R71: the decision on a term's copy: accepted without check where its parcel
is NONE, else RANGE, UNKNOWN-REFERENCE and CAPACITY (codes 2, 5 and 6) in this order, else the term replaced; with
the valve table brought into line, an entry kept for a station still named and created FAULT and unheard for a new
one. -/
def Obligations.TermCopyDecision : Prop :=
  (∀ (s : State) (q : TermPos) (c : Copy TermDecl), s.terms[q].decl.handOver = some c →
    let refused := fun code : Nat =>
      queueAlert .planReject (.term q) ((c.rev.toNat + 256 * code : Nat) : Int)
      (s.putTerm q { s.terms[q] with decl := { s.terms[q].decl with handOver := none } })
    let applied := fun term : Option Term =>
      alignValves (s.putTerm q ⟨⟨some c, s.terms[q].decl.staged, none⟩, term⟩)
    let known := fun k : Key => ∃ r, s.meter? k = some r ∧ r.decl.current.isSome = true
    (c.contents.parcel = 15 → decideTerm s q = applied none)
    ∧ (c.contents.parcel ≠ 15 → termOfDecl c.contents = none → decideTerm s q = refused 2)
    ∧ ∀ term, c.contents.parcel ≠ 15 → termOfDecl c.contents = some term →
        let stations := namedStations (heldTerms (s.putTerm q { s.terms[q] with term := some term }))
        (¬known term.meter → decideTerm s q = refused 5)
        ∧ (known term.meter → 8 < stations.length → decideTerm s q = refused 6)
        ∧ (known term.meter → stations.length ≤ 8 → decideTerm s q = applied (some term)))
    ∧ (∀ (d : TermDecl) (term : Term), termOfDecl d = some term ↔
        d.parcel = term.parcel.val ∧ d.meterStation = term.meter.station.val ∧ d.meterIndex = term.meter.index
          ∧ d.count ≤ 4
          ∧ d.literals = term.literals.map fun l => ⟨l.station.val, if l.needOpen then 0 else 1, l.valve⟩)
    ∧ ∀ (s : State) (a : Station),
        (a ∈ (alignValves s).valves.map (·.station) ↔ ∃ q : TermPos, ∃ t, s.terms[q].term = some t
          ∧ ∃ l ∈ t.literals, l.station = a)
        ∧ ∀ e ∈ (alignValves s).valves, e.station = a → (∀ old, s.valve? a = some old → e = old)
          ∧ (s.valve? a = none → e = ⟨a, Vector.replicate 16 .fault, none⟩)

/-- Out of R111, R52, R65 and R68: stage 2 fills the snapshot buffer in one act: every tank and meter with a
current declaration, every valve entry, and every station fresh or stale as age and limit stand. The count of
records dealt with, which it sets to 0, is the model's (log 10). -/
def Obligations.SnapshotTakesLiveReadings : Prop :=
  ∀ s : State, s.ee.pass = .running .snapshot → Calm s →
    ∃ n : Snapshot, exec .snapshot s = .next { s with
        ee := { s.ee with pass := .running .holdCauses, visited := 0, snapshot := some n } }
      ∧ (∀ e, e ∈ n.tanks ↔ ∃ r ∈ s.tanks, ∃ w, r.work = some w
          ∧ e = ⟨r.key, w.side, w.parcel, w.reading, w.gaugeInvalid⟩)
      ∧ (∀ e, e ∈ n.meters ↔ ∃ r ∈ s.meters, ∃ w, r.work = some w ∧ e = ⟨r.key, w.factor, w.reading⟩)
      ∧ n.valves = (s.valves.map fun e => ⟨e.station, e.states, e.lastSeq.isSome⟩)
      ∧ ∀ a : Station, n.stale[a] = true ↔ s.ct.staleLimit ≤ s.fresh[a].age

/-- R91 and R113: stage 3 recomputes the hold-cause set of each ACTIVE or HELD parcel from the snapshot, the
DEFERRED flags and the accepted ESD level, carries EXCURSION-HOLD through, and makes the parcel HELD where the set
is not empty and ACTIVE where it is; it passes every other parcel over. The parcels are dealt with one by one, each
as ESD and the tables stand when the stage reaches it, in ascending number, an order that is the model's choice
(log 25); and by as many commands as there are such parcels the stage is over. That one command deals with one
parcel is the model's (log 10). -/
def Obligations.HoldCausesRecomputed : Prop :=
  ∀ (s : State) (n : Snapshot), s.ee.pass = .running .holdCauses → s.ee.snapshot = some n → Calm s →
    let works := fun p : ParcelNo => s.parcels[p].state = .active ∨ s.parcels[p].state = .held
    let basis := fun (p : ParcelNo) b => ∃ c, s.parcels[p].decl.current = some c ∧ c.contents.basis = b
    let recomputed := fun (p : ParcelNo) (x : ParcelRec) => ∃ holds : HoldSet,
      x = { s.parcels[p] with
        holds := holds
        state := if holds = ⟨false, false, false, false⟩ then .active else .held }
      ∧ (holds.tankStale = true ↔ ∃ k w, (k, w) ∈ assignedTanks s p ∧ n.stale[k.station] = true
          ∧ (w.side = .ship ∨ (w.side = .shore ∧ basis p .tank)))
      ∧ (holds.meterStale = true ↔ basis p .meter ∧ ∃ q : TermPos, ∃ t, s.terms[q].term = some t ∧ t.parcel = p
          ∧ (n.stale[t.meter.station] = true
            ∨ ∃ m w, s.meter? t.meter = some m ∧ m.work = some w ∧ w.deferred = true))
      ∧ (holds.esd = true ↔ s.sr.esdLevel = .asserted)
      ∧ holds.excursionHold = s.parcels[p].holds.excursionHold
    let left := (List.finRange 8).filter fun p => decide (s.ee.visited ≤ p.val ∧ works p)
    (left = [] → exec .holdCauseRecomputation s = .next (stageOn .tankVolumes false 0 s))
    ∧ (∀ p rest, left = p :: rest → ∃ x, recomputed p x
        ∧ exec .holdCauseRecomputation s
          = .next (stageOn .tankVolumes (decide (rest ≠ [])) (p.val + 1) (s.putParcel p x)))
    ∧ ∃ parcels : Vector ParcelRec 8,
        again (max 1 left.length) .holdCauseRecomputation s
          = .next (stageOn .tankVolumes false 0 { s with parcels := parcels })
        ∧ ∀ p : ParcelNo, (p ∈ left → recomputed p parcels[p]) ∧ (p ∉ left → parcels[p] = s.parcels[p])

/-- Out of R53, R54 and R113: stage 4 computes the current standard volume of every tank of a DECLARED, ACTIVE or
HELD parcel from its snapshot reading and its parcel's α, sets the clamp flags it reports, keeps the volume of a
CLOSED parcel's tanks, and leaves every other tank without one. It deals with the tanks of the snapshot one by one,
and by as many commands as there are the stage is over. That one command deals with one tank is the model's (log
10), and so is the order of the tanks, which is the snapshot's (log 25). -/
def Obligations.StandardVolumesComputed : Prop :=
  ∀ (s : State) (n : Snapshot), s.ee.pass = .running .tankVolumes → s.ee.snapshot = some n → Calm s → TablesSound s →
    (n.tanks.length ≤ s.ee.visited → exec .standardVolumeComputation s = .next (stageOn .meterFlow false 0 s))
      ∧ (∀ e, n.tanks[s.ee.visited]? = some e → exec .standardVolumeComputation s
          = .next (stageOn .meterFlow (decide (s.ee.visited + 1 < n.tanks.length)) (s.ee.visited + 1)
            { s with tanks := s.tanks.map fun r => if r.key = e.key then tankVolume n s r else r }))
      ∧ (s.ee.visited = 0 → again (max 1 n.tanks.length) .standardVolumeComputation s
          = .next (stageOn .meterFlow false 0 { s with tanks := s.tanks.map (tankVolume n s) }))
      ∧ ∀ (r : TankRec) (w : TankWork) (e : TankSnap), r.work = some w → n.tank? r.key = some e →
        (∀ p, w.parcel = some p → s.parcels[p].state = .closed → tankVolume n s r = r)
        ∧ (w.parcel = none ∨ (∃ p, w.parcel = some p ∧ s.parcels[p].state = .vacant) ∨
            (e.reading = none ∧ ∀ p, w.parcel = some p → s.parcels[p].state ≠ .closed) →
            tankVolume n s r = { r with work := some { w with current := none } })
        ∧ ∀ p alpha reading, w.parcel = some p → s.parcels[p].alpha = some alpha → e.reading = some reading →
            s.parcels[p].state = .declared ∨ s.parcels[p].state = .active ∨ s.parcels[p].state = .held →
            tankVolume n s r = { r with work := some { w with
              current := some (standardVolume alpha reading)
              tempClamped := w.tempClamped || (ctl5 alpha reading.temp).limited
              volumeClamped := w.volumeClamped || (clampVolume reading.volume).limited } }

/-- Out of R73 to R75 and R113: stage 5 visits the meters of the snapshot in ascending key order, one by one, and
classifies each: no reading, first reading and no flow credit nothing and clear DEFERRED; a break takes the new
baseline, sets BREAK-SEEN and raises TOTALIZER-BREAK; a flow with a stale valve station is deferred, and
METER-STALE enters the set of every ACTIVE or HELD parcel of basis METER that a term of the meter names. By as many
commands as there are meters the stage is over; that one command deals with one meter is the model's (log 10). -/
def Obligations.MeterFlowClasses : Prop :=
  (∀ (s : State) (n : Snapshot), s.ee.pass = .running .meterFlow → s.ee.snapshot = some n → Calm s →
    (n.meters.length ≤ s.ee.visited → exec .meterConsumption s = .next (stageOn .marks false 0 s))
    ∧ (∀ e, n.meters[s.ee.visited]? = some e → exec .meterConsumption s
        = .next (stageOn .marks (decide (s.ee.visited + 1 < n.meters.length)) (s.ee.visited + 1) (consumeMeter n s e)))
    ∧ (s.ee.visited = 0 → again (max 1 n.meters.length) .meterConsumption s
        = .next (stageOn .marks false 0 (n.meters.foldl (consumeMeter n) s))))
  ∧ (∀ s : State, TablesSound s →
      (takeSnapshot s).meters.Pairwise fun a b => keyCode a.key < keyCode b.key)
  ∧ (∀ (n : Snapshot) (s : State) (e : MeterSnap),
      s.meter? e.key = none ∨ (∃ r, s.meter? e.key = some r ∧ r.work = none) → consumeMeter n s e = s)
  ∧ ∀ (n : Snapshot) (s : State) (e : MeterSnap) (r : MeterRec) (w : MeterWork),
      s.meter? e.key = some r → r.work = some w →
      let record := fun v : MeterWork => s.putMeter { r with work := some v }
      (e.reading = none → consumeMeter n s e = record { w with deferred := false })
      ∧ ∀ reading, e.reading = some reading →
        (w.baseline = none →
          consumeMeter n s e = record { w with baseline := some reading.cumulative, deferred := false })
        ∧ ∀ baseline, w.baseline = some baseline →
          let delta := (reading.cumulative.toNat + 16777216 - baseline.toNat) % 16777216
          (delta = 0 → consumeMeter n s e = record { w with deferred := false })
          ∧ (8388609 ≤ delta → consumeMeter n s e
              = queueAlert .totalizerBreak (.meter e.key) (delta : Int)
                  (record { w with
                    baseline := some reading.cumulative, breakSeen := true, deferred := false }))
          ∧ (1 ≤ delta → delta ≤ 8388608 →
              (∃ q : TermPos, ∃ t, s.terms[q].term = some t ∧ t.meter = e.key ∧ ∃ l ∈ t.literals,
                n.stale[l.station] = true ∨ ∀ v, n.valve? l.station = some v → v.heard = false) →
              ∃ parcels : Vector ParcelRec 8,
                consumeMeter n s e = { record { w with deferred := true } with parcels := parcels }
                ∧ ∀ p : ParcelNo,
                  let x := s.parcels[p]
                  let held := (∃ q : TermPos, ∃ t, s.terms[q].term = some t ∧ t.meter = e.key ∧ t.parcel = p)
                    ∧ (x.state = .active ∨ x.state = .held)
                    ∧ ∃ c, x.decl.current = some c ∧ c.contents.basis = .meter
                  (held → parcels[p]
                    = { x with state := .held, holds := { x.holds with meterStale := true } })
                  ∧ (¬held → parcels[p] = x))

/-- Out of R76, R77, R79 and R80: a flow that is not deferred goes whole to one place, by the parcels its true terms
name: the one parcel's running total in standard litres, by R12 and R17, with ROUTED; UNROUTED with an alert for each
1,000 litres since the last notice; or CONFLICT with a ROUTE-CONFLICT alert of the set of parcels named. -/
def Obligations.FlowGoesToOnePlace : Prop :=
  ∀ (n : Snapshot) (s : State) (e : MeterSnap) (r : MeterRec) (w : MeterWork) (reading : MeterReading)
      (baseline : BitVec 24) (delta : Nat),
    s.meter? e.key = some r → r.work = some w → e.reading = some reading → w.baseline = some baseline →
    delta = (reading.cumulative.toNat + 16777216 - baseline.toNat) % 16777216 → 1 ≤ delta → delta ≤ 8388608 →
    (∀ (q : TermPos) (t : Term), s.terms[q].term = some t → t.meter = e.key → ∀ l ∈ t.literals,
      n.stale[l.station] = false ∧ ∃ v, n.valve? l.station = some v ∧ v.heard = true) →
    let holds := fun l : Literal => ∃ v, n.valve? l.station = some v
      ∧ v.states[l.valve] = if l.needOpen then .opened else .closed
    let named := fun p : ParcelNo => ∃ q : TermPos, ∃ t, s.terms[q].term = some t ∧ t.meter = e.key
      ∧ t.parcel = p ∧ ∀ l ∈ t.literals, holds l
    let record := fun v : MeterWork => s.putMeter
      { r with work := some { v with baseline := some reading.cumulative, deferred := false } }
    let unrouted := min (w.unrouted + delta) 4294967295
    let toUnrouted := queueAlertTimes .unrouted (.meter e.key) ((min unrouted 2147483647 : Nat) : Int)
      ((w.sinceNotice + delta) / 1000)
      (record { w with unrouted := unrouted, sinceNotice := (w.sinceNotice + delta) % 1000 })
    ((∀ p, ¬named p) → consumeMeter n s e = toUnrouted)
    ∧ (∀ p, named p → (∀ q, named q → q = p) →
        (s.parcels[p].state = .vacant ∨ s.parcels[p].state = .declared ∨ s.parcels[p].state = .closed →
          consumeMeter n s e = toUnrouted)
        ∧ ∀ alpha, s.parcels[p].alpha = some alpha → s.parcels[p].state = .active ∨ s.parcels[p].state = .held →
          let ctl := ctl5 alpha reading.temp
          let product := delta * e.factor * ctl.value + if w.lastCredited = some p then w.residue else 0
          let total := s.parcels[p].meterTotal + ((product / 10000000000 : Nat) : Int)
          consumeMeter n s e
            = (record { w with
                routed := min (w.routed + delta) 4294967295
                residue := product % 10000000000
                lastCredited := some p
                tempClamped := ctl.limited }).putParcel p
              { s.parcels[p] with
                meterTotal := max (-2147483647) (min 2147483647 total)
                saturation := s.parcels[p].saturation || decide (2147483647 < total.natAbs) })
    ∧ ∀ p q, named p → named q → p ≠ q → ∃ value : Nat,
        consumeMeter n s e = queueAlert .routeConflict (.meter e.key) (value : Int)
          (record { w with conflict := min (w.conflict + delta) 4294967295 })
        ∧ 3 ≤ value ∧ value ≤ 255 ∧ ∀ x : ParcelNo, value / 2 ^ x.val % 2 = 1 ↔ named x

/-- Out of R78: every credited delta goes in full into exactly one of a meter's three accumulators, so that they sum
to the litres consumed unless one has saturated; a first reading, a zero delta, a break and a deferred delta leave all
three as they were. -/
def Obligations.AccumulatorsConserveFlow : Prop :=
  ∀ (n : Snapshot) (s : State) (e : MeterSnap) (r : MeterRec) (w : MeterWork),
    s.meter? e.key = some r → r.work = some w →
    ∃ v, (consumeMeter n s e).meter? e.key = some { r with work := some v }
      ∧ (∀ k, k ≠ e.key → (consumeMeter n s e).meter? k = s.meter? k)
      ∧ v.factor = w.factor ∧ v.reading = w.reading ∧ v.lastSeq = w.lastSeq
      ∧ let same := v.routed = w.routed ∧ v.conflict = w.conflict ∧ v.unrouted = w.unrouted
        (e.reading = none ∨ w.baseline = none ∨ v.baseline = w.baseline → same)
        ∧ ∀ reading baseline, e.reading = some reading → w.baseline = some baseline →
          let delta := indicatedDelta reading.cumulative baseline
          (8388608 < delta → same)
          ∧ (v.baseline ≠ w.baseline → delta ≤ 8388608 →
              (v.routed = min (w.routed + delta) 4294967295 ∧ v.conflict = w.conflict ∧ v.unrouted = w.unrouted)
              ∨ (v.routed = w.routed ∧ v.conflict = min (w.conflict + delta) 4294967295 ∧ v.unrouted = w.unrouted)
              ∨ (v.routed = w.routed ∧ v.conflict = w.conflict
                  ∧ v.unrouted = min (w.unrouted + delta) 4294967295))

/-- Out of R97 and R114: stage 6 applies the marks in hand in ascending parcel number, one by one, and by as many
commands as there are marks leaves none in hand; a mark whose expected revision is not the parcel's current one, or
whose parcel holds no current declaration, is refused with REVISION or MARK-REVISION and changes nothing else. That
one command applies one mark is the model's (log 10). -/
def Obligations.MarksAppliedInOrder : Prop :=
  (∀ (s : State) (n : Snapshot), s.ee.pass = .running .marks → s.ee.snapshot = some n → Calm s →
    let left := (List.finRange 8).filter fun p => decide (s.ee.visited ≤ p.val) && s.parcels[p].inHand.isSome
    (left = [] → exec .markApplication s = .next (stageOn .figures false 0 s))
    ∧ (∀ p rest, left = p :: rest → exec .markApplication s
        = .next (stageOn .figures (decide (rest ≠ [])) (p.val + 1) (applyMark n s p)))
    ∧ (s.ee.visited = 0 →
        let t := [0, 1, 2, 3, 4, 5, 6, 7].foldl (applyMark n) s;
        again (max 1 left.length) .markApplication s = .next (stageOn .figures false 0 t)
          ∧ ∀ p : ParcelNo, t.parcels[p].inHand = none))
  ∧ (∀ (n : Snapshot) (s : State) (p : ParcelNo), s.parcels[p].inHand = none → applyMark n s p = s)
  ∧ ∀ (n : Snapshot) (s : State) (p : ParcelNo) (m : Mark), s.parcels[p].inHand = some m →
      (∀ c, s.parcels[p].decl.current = some c → c.rev ≠ m.expected) →
      let gone := s.putParcel p { s.parcels[p] with inHand := none }
      (m.kind = .openParcel → applyMark n s p
        = queueAlert .openRefused (.parcel p) ((m.expected.toNat + 256 * 1 : Nat) : Int) gone)
      ∧ (m.kind = .closeParcel ∨ m.kind = .releaseParcel → applyMark n s p
        = queueAlert .planReject (.parcel p) ((m.expected.toNat + 256 * 7 : Nat) : Int) gone)

/-- R98 and R99: an OPEN whose expected revision is not the current one is refused with REVISION, and one that passes
is judged by the seven checks in order, the first that fails refusing it with its code and leaving the parcel as it
was; one that passes them all opens the parcel and its tanks in one act. -/
def Obligations.OpenIsChecked : Prop :=
  (∀ (n : Snapshot) (s : State) (p : ParcelNo) (expected : Byte),
    s.parcels[p].inHand = some ⟨.openParcel, expected⟩ →
    (∀ c, s.parcels[p].decl.current = some c → c.rev ≠ expected) →
    applyMark n s p = queueAlert .openRefused (.parcel p) ((expected.toNat + 256 * 1 : Nat) : Int)
      (s.putParcel p { s.parcels[p] with inHand := none }))
  ∧ ∀ (n : Snapshot) (s : State) (p : ParcelNo) (c : Copy ParcelDecl),
    s.parcels[p].inHand = some ⟨.openParcel, c.rev⟩ → s.parcels[p].decl.current = some c →
    let r := s.parcels[p]
    let gone := s.putParcel p { r with inHand := none }
    let refused := fun code : Nat =>
      queueAlert .openRefused (.parcel p) ((c.rev.toNat + 256 * code : Nat) : Int) gone
    let tank := fun side : Side => ∃ k w, (k, w) ∈ assignedTanks s p ∧ w.side = side
    let pass1 := r.state = .declared
    let pass2 := pass1 ∧ s.sr.esdLevel = .released
    let pass3 := pass2 ∧ tank .ship
    let pass4 := pass3 ∧ (c.contents.basis = .tank → tank .shore)
    let pass5 := pass4 ∧ (c.contents.basis = .meter → ∃ q : TermPos, ∃ t, s.terms[q].term = some t ∧ t.parcel = p)
    let pass6 := pass5 ∧ ∀ k w, (k, w) ∈ assignedTanks s p → n.stale[k.station] = false
    let pass7 := pass6 ∧ ∀ k w, (k, w) ∈ assignedTanks s p → ∃ e, n.tank? k = some e ∧ e.gaugeInvalid = false
    (¬pass1 → applyMark n s p = refused 2)
    ∧ (pass1 → ¬pass2 → applyMark n s p = refused 3)
    ∧ (pass2 → ¬pass3 → applyMark n s p = refused 4)
    ∧ (pass3 → ¬pass4 → applyMark n s p = refused 5)
    ∧ (pass4 → ¬pass5 → applyMark n s p = refused 6)
    ∧ (pass5 → ¬pass6 → applyMark n s p = refused 7)
    ∧ (pass6 → ¬pass7 → applyMark n s p = refused 8)
    ∧ (pass7 → applyMark n s p =
        { s.putParcel p
            { r with
              inHand := none
              state := .active
              holds := ⟨false, false, false, false⟩
              meterTotal := 0
              saturation := false
              count := 0
              closedWhileHeld := false
              published := ⟨⟨0, 0, 0, 0, 0, 0, c.contents.floor * 100, false⟩, r.published.state, false⟩ } with
          tanks := s.tanks.map fun x =>
            { x with work := x.work.map fun w =>
                if w.parcel = some p then { w with opening := w.current, rebased := false } else w } })

/-- Out of R100, R101 and R103 with R56, R82 and R153: what a CLOSE and a RELEASE that pass the revision check do to a
parcel in each state at stage 6. -/
def Obligations.CloseAndReleaseByState : Prop :=
  ∀ (n : Snapshot) (s : State) (p : ParcelNo) (c : Copy ParcelDecl) (k : MarkKind),
    s.parcels[p].inHand = some ⟨k, c.rev⟩ → s.parcels[p].decl.current = some c →
    let r := { s.parcels[p] with inHand := none }
    let gone := s.putParcel p r
    let refused := queueAlert .planReject (.parcel p) ((c.rev.toNat + 256 * 8 : Nat) : Int) gone
    (k = .closeParcel →
      (r.state = .active → applyMark n s p = s.putParcel p { r with closing := true })
      ∧ (r.state = .held → applyMark n s p = queueAlert .parcelClosed (.parcel p) r.published.figures.d
          (s.putParcel p { r with
            state := .closed, closing := false, holds := ⟨false, false, false, false⟩, closedWhileHeld := true }))
      ∧ (r.state = .vacant ∨ r.state = .declared ∨ r.state = .closed → applyMark n s p = refused))
    ∧ (k = .releaseParcel →
      (r.state = .active ∨ r.state = .held → applyMark n s p = refused)
      ∧ (r.state = .vacant → applyMark n s p = gone)
      ∧ (r.state = .closed ∨ r.state = .declared →
          let t : State := { s.putParcel p
              { r with
                state := .vacant
                holds := ⟨false, false, false, false⟩
                closing := false
                meterTotal := 0
                saturation := false
                count := 0
                excursion := false
                peerDiverge := false
                closedWhileHeld := false
                published := ⟨⟨0, 0, 0, 0, 0, 0, 0, false⟩, r.published.state, false⟩ } with
            tanks := s.tanks.map fun x =>
              { x with work := x.work.map fun w =>
                  if w.parcel = some p then
                    { w with
                      parcel := none
                      current := none
                      opening := none
                      volumeClamped := false
                      tempClamped := false
                      rebased := false }
                  else w }
            meters := s.meters.map fun x =>
              { x with work := x.work.map fun w =>
                  if w.lastCredited = some p then { w with lastCredited := none } else w }
            peers := s.peers.filter fun e => decide (e.parcel ≠ p) }
          applyMark n s p = { t with alertN := alertCondition t }))

/-- Out of R115, R100 and R124: stage 7 visits the parcels in ascending number, each in one act: an ACTIVE one is
computed, stepped and, with its closing flag, closed; a HELD one with its closing flag closes with its held
figures; any other is passed over; and by as many commands as there are parcels to deal with the stage is over.
That one command deals with one parcel is the model's (log 10). -/
def Obligations.FiguresEvaluatedByState : Prop :=
  (∀ s : State, s.ee.pass = .running .figures → Calm s →
    let left := (List.finRange 8).filter fun p => decide (s.ee.visited ≤ p.val
      ∧ (s.parcels[p].state = .active ∨ (s.parcels[p].state = .held ∧ s.parcels[p].closing = true)))
    (left = [] → exec .figureEvaluation s = .next (stageOn .publication false 0 s))
    ∧ (∀ p rest, left = p :: rest → exec .figureEvaluation s
        = .next (stageOn .publication (decide (rest ≠ [])) (p.val + 1) (evaluateParcel s p)))
    ∧ (s.ee.visited = 0 → again (max 1 left.length) .figureEvaluation s
        = .next (stageOn .publication false 0 ([0, 1, 2, 3, 4, 5, 6, 7].foldl evaluateParcel s))))
  ∧ ∀ (s : State) (p : ParcelNo),
    let r := s.parcels[p]
    let closed := fun (d : Int) (t : State) => queueAlert .parcelClosed (.parcel p) d t
    (r.state = .vacant ∨ r.state = .declared ∨ r.state = .closed → evaluateParcel s p = s)
    ∧ (r.state = .held → r.closing = false → evaluateParcel s p = s)
    ∧ (r.state = .held → r.closing = true → evaluateParcel s p = closed r.published.figures.d
        (s.putParcel p { r with
          state := .closed, closing := false, holds := ⟨false, false, false, false⟩, closedWhileHeld := true }))
    ∧ ∀ c, r.state = .active → r.decl.current = some c →
      let sum := fun side => ((assignedTanks s p).map fun e => contribution c.contents.direction side e.2).sum
      let e := evaluate c.contents (sum .ship) (sum .shore) r.meterTotal r.saturation
      let t := toleranceStep p e.excursive e.figures.d
        { s.putParcel p { r with saturation := e.figures.saturated } with
          ee := { s.ee with evaluated := setPlace s.ee.evaluated p (some e.figures) } }
      (r.closing = false → evaluateParcel s p = t)
      ∧ (r.closing = true → evaluateParcel s p = closed e.figures.d
          (t.putParcel p { t.parcels[p] with
            state := .closed, closing := false, holds := ⟨false, false, false, false⟩ }))

/-- Out of R125 to R127, R129 to R131 and R139: the outcome of a tolerance step, row by row: the count, the latch with
ALERT_N, the EXCURSION alert and then the effective option's act, which acts at a latching alone. -/
def Obligations.ToleranceStepRows : Prop :=
  ∀ (s : State) (p : ParcelNo) (c : Copy ParcelDecl) (d : Int),
    s.parcels[p].decl.current = some c → s.parcels[p].state = .active →
    let r := s.parcels[p]
    let depth := match c.contents.depthCode with | 0 => 1 | 1 => 2 | 2 => 4 | 3 => 6
    let counted := fun count => s.putParcel p { r with count := count }
    let marked := s.putParcel p { r with count := depth, excursion := true }
    let alerted := queueAlert .excursion (.parcel p) d { marked with alertN := alertCondition marked }
    let option : Fin 4 := if s.sr.role = .independent ∧ (c.contents.option = 2 ∨ c.contents.option = 3) then 0
      else c.contents.option
    (toleranceStep p false d s = counted 0)
    ∧ (r.count + 1 < depth → toleranceStep p true d s = counted (r.count + 1))
    ∧ (r.count = depth → toleranceStep p true d s = counted depth)
    ∧ (r.count + 1 = depth → r.excursion = true → toleranceStep p true d s = counted depth)
    ∧ (r.count + 1 = depth → r.excursion = false →
        (option = 0 → toleranceStep p true d s = alerted)
        ∧ (option = 1 → toleranceStep p true d s = alerted.putParcel p
            { r with
              count := depth
              excursion := true
              state := .held
              holds := { r.holds with excursionHold := true } })
        ∧ (option = 2 → toleranceStep p true d s = queueAlert .stopAdvise (.parcel p) d alerted)
        ∧ (option = 3 → ∃ value : Nat, toleranceStep p true d s = queueAlert .stopAdvise .all (value : Int) alerted
            ∧ 1 ≤ value ∧ value ≤ 255
            ∧ ∀ q : ParcelNo, value / 2 ^ q.val % 2 = 1 ↔
                q = p ∨ (s.parcels[q].excursion = true
                  ∧ ∃ x, s.parcels[q].decl.current = some x ∧ x.contents.option = 3)))

/-- R116, with R104 and R108: stage 8 publishes all eight parcels in one act, a parcel with an evaluated set its
eight values and any other the values it had, with state and CLOSED-WHILE-HELD as they stand; the snapshot and the
evaluated sets are discarded; T1 counts the completion; and a pending pass begins, or the engine is IDLE. The count
of records dealt with, which is then 0, is the model's (log 10). -/
def Obligations.PublicationEndsPass : Prop :=
  ∀ s : State, s.ee.pass = .running .publication → Calm s →
    let published := { s with
      parcels := Vector.ofFn fun p : ParcelNo =>
        { s.parcels[p] with published :=
            { figures := match s.ee.evaluated[p] with | some f => f | none => s.parcels[p].published.figures
              state := s.parcels[p].state
              closedWhileHeld := s.parcels[p].closedWhileHeld } }
      ee := { s.ee with snapshot := none, evaluated := Vector.replicate 8 none } }
    let counted := published.mapTimer 1 Timer.countEvent
    (s.ee.pending = false →
        exec .publication s = .next { counted with ee := { counted.ee with pass := .idle, visited := 0 } })
    ∧ (s.ee.pending = true →
        exec .publication s = .next (beginPass { counted with ee := { counted.ee with pending := false } }))

/-- Out of R111 and R117: stages 3 to 7 take readings, valve states and freshness from the snapshot alone: whatever
the live readings, the live valve entries and the ages of the stations are when such a stage deals with a record, the
stage does the same and leaves them as they are. -/
def Obligations.StagesReadSnapshotAlone : Prop :=
  ∀ (fresh : Vector FreshEntry 63) (valves : List ValveEntry)
      (gauges : Key → Option Byte × Option GaugeReading × Bool × Nat)
      (meters : Key → Option Byte × Option MeterReading),
    let live := fun s : State =>
      { s with
        fresh := fresh
        valves := valves
        tanks := s.tanks.map fun r =>
          { r with work := r.work.map fun w =>
              { w with
                lastSeq := (gauges r.key).1
                reading := (gauges r.key).2.1
                gaugeInvalid := (gauges r.key).2.2.1
                confirm := (gauges r.key).2.2.2 } }
        meters := s.meters.map fun r =>
          { r with work := r.work.map fun w =>
              { w with lastSeq := (meters r.key).1, reading := (meters r.key).2 } } }
    ∀ (c : Instr) (s : State),
      c = .holdCauseRecomputation ∨ c = .standardVolumeComputation ∨ c = .meterConsumption
        ∨ c = .markApplication ∨ c = .figureEvaluation → Calm s →
      ∃ t, exec c s = .next t ∧ exec c (live s) = .next (live t)

/-! ### Chapter 12: straps, resets and discrete lines -/

/-- Out of R197 to R200 with R85, R105, R122, R136, R156 and the reset values of every chapter: a power-on reset
samples the straps, a RESET_N reset keeps what the last power-on sampled, and everything else is at its reset value
after either, whatever the node was doing. The commands that wait and the number of the next free value are the
model's own and are kept (logs 4 and 7); its count of records dealt with and its marks of zeros due are at 0 and
clear (logs 10 and 2). -/
def Obligations.ResetsSetEveryPart : Prop :=
  ∀ (straps : Straps) (esd : EsdLevel) (s : State),
    let level := fun x : StrapLevel => match x with | .low => 0 | .openPin => 1 | .high => 2
    ∃ t, exec (.powerOnReset straps esd) s = .next t
      ∧ (∀ u : State, u.sr.address = t.sr.address → u.sr.role = t.sr.role → u.sr.rate = t.sr.rate →
          exec (.resetN esd) u = .next { t with freeIndex := u.freeIndex, pending := u.pending })
      ∧ t.sr.address.val = level straps.addr0 + 3 * level straps.addr1 + 9 * level straps.addr2
      ∧ t.sr.role = (match straps.role with | .low => .ship | .openPin => .shore | .high => .independent)
      ∧ t.sr.rate = (match straps.rate with | .low => .kbit125 | .openPin => .kbit250 | .high => .kbit500)
      ∧ t.sr.clock = 0
      ∧ t.sr.stagger = (if t.sr.address.val = 0 then .ended else .running (250 * t.sr.address.val))
      ∧ t.sr.esdRaw = esd ∧ t.sr.esdLevel = esd ∧ t.sr.esdTimer = none
      ∧ (t.sr.esdOwed = true ↔ esd = .asserted ∧ t.sr.address.val ≠ 0)
      ∧ t.bi = ⟨false, false, .idle, false, none⟩ ∧ t.told = none
      ∧ t.tanks = [] ∧ t.meters = [] ∧ t.valves = [] ∧ t.peers = []
      ∧ (∀ q : TermPos, t.terms[q] = ⟨⟨none, none, none⟩, none⟩)
      ∧ (∀ p : ParcelNo, t.parcels[p] =
          { decl := ⟨none, none, none⟩
            state := .vacant
            alpha := none
            holds := ⟨false, false, false, false⟩
            pendingMark := none
            inHand := none
            closing := false
            meterTotal := 0
            saturation := false
            count := 0
            excursion := false
            peerDiverge := false
            closedWhileHeld := false
            published := ⟨⟨0, 0, 0, 0, 0, 0, 0, false⟩, .vacant, false⟩ })
      ∧ t.ee.pass = .idle ∧ t.ee.visited = 0 ∧ t.ee.pending = false ∧ t.ee.overrun = false ∧ t.ee.snapshot = none
      ∧ (∀ p : ParcelNo, t.ee.evaluated[p] = none)
      ∧ t.round = ⟨false, 0, false⟩
      ∧ t.ct.timers[(0 : Fin 4)] = ⟨⟨.time, .by100, 10⟩, 10, 0, .running, none, false⟩
      ∧ t.ct.timers[(1 : Fin 4)] = ⟨⟨.count, .by100, 5⟩, 5, 0, .running, none, false⟩
      ∧ t.ct.timers[(2 : Fin 4)] = ⟨⟨.time, .by100, 50⟩, 50, 0, .running, none, false⟩
      ∧ t.ct.timers[(3 : Fin 4)] = ⟨⟨.time, .by100, 256⟩, 256, 0,
          if t.sr.address.val = 0 then .running else .halted, none, false⟩
      ∧ t.ct.staleLimit = 3 ∧ t.ct.t3Set = false
      ∧ (∀ a : Station, t.fresh[a] = ⟨15, none⟩)
      ∧ t.aq.withheld = false ∧ t.qq.queries = [] ∧ t.qq.build = none ∧ t.alertN = false
      ∧ t.freeIndex = s.freeIndex ∧ t.pending = s.pending
      ∧ t.slots[(1 : Fin 4)] = .empty ∧ t.slots[(2 : Fin 4)] = .empty ∧ t.slots[(3 : Fin 4)] = .empty
      ∧ (¬(esd = .asserted ∧ t.sr.address.val = 0) → t.aq.records = [] ∧ t.slots[(0 : Fin 4)] = .empty)
      ∧ (esd = .asserted → t.sr.address.val = 0 → t.aq.records = [⟨.esd, .nothing, 1, 0⟩]
          ∧ t.slots[(0 : Fin 4)] = .pending ⟨.alert, [12, 0, 0, 0, 0, 0, 1, 0, 0, 0, 0]⟩)

/-- Out of R199, R200 and R156: the stagger runs out by one millisecond a tick and then ends by itself, before the next
command; at its end T3 starts unless a CADENCE frame has set it, an owed ESD alert of value 1 is queued and no longer
owed, and the arbiter may offer; the order of these two acts is a free value (log 4). Before the stagger has run out, and
after it has ended, the command does nothing. The place of the end among other acts due is the model's (log 2), and so is
that the milliseconds left are counted down (log 19). -/
def Obligations.StaggerEndActs : Prop :=
  (∀ s : State, s.sr.stagger = .running 0 → s.told = none →
    let t3 := s.ct.timers[(3 : Fin 4)]
    let params := match t3.pendingSet with | some p => p | none => t3.params
    let started := setPlace s.ct.timers 3
      { t3 with params := params, pendingSet := none, count := params.constant, phase := 0, run := .running }
    let t := { s with
      sr := { s.sr with stagger := .ended }
      ct := { s.ct with timers := if s.ct.t3Set then s.ct.timers else started } }
    (s.sr.esdOwed = false → exec .staggerEnd s = .next (offer t))
    ∧ (s.sr.esdOwed = true →
        let u := { t with sr := { t.sr with esdOwed := false }, freeIndex := s.freeIndex + 1 }
        exec .staggerEnd s = .next (offer (queueAlert .esd .nothing 1 u))
          ∨ exec .staggerEnd s = .next (queueAlert .esd .nothing 1 (offer u))))
  ∧ (∀ s : State, s.sr.stagger ≠ .running 0 → s.told = none → exec .staggerEnd s = .next s)
  ∧ ∀ (s t : State) (n left : Nat), s.sr.stagger = .running left → again n .referenceTick s = .next t →
      (n ≤ left → t.sr.stagger = .running (left - n))
        ∧ (left < n → t.sr.stagger = .ended)
        ∧ (left ≤ n → (settle t).sr.stagger = .ended)

/-- Out of R198, R94, R95 and R200: a raw ESD level that differs from the accepted one is measured; once it has stood for
20 ms it is accepted, before the next command, a reset excepted, and a level that changes back then starts a new
measurement; an assertion puts ESD into the set of every ACTIVE and HELD parcel at once and raises an alert of value 1, a
release changes no parcel and raises an alert of value 0 or takes back an owed one; a pulse shorter than 20 ms leaves no
trace. The place of the acceptance among other acts due is the model's (log 2), and so is that the measurement starts at
0, rises by 1 with each tick and is full at the twentieth (log 19). -/
def Obligations.EsdEdgesAccepted : Prop :=
  (∀ (s : State) (level : EsdLevel), Calm s →
    (level = s.sr.esdRaw → exec (.esdInputChange level) s = .next s)
    ∧ (level ≠ s.sr.esdRaw → level = s.sr.esdLevel →
        exec (.esdInputChange level) s = .next { s with sr := { s.sr with esdRaw := level, esdTimer := none } })
    ∧ (level ≠ s.sr.esdRaw → level ≠ s.sr.esdLevel →
        exec (.esdInputChange level) s = .next { s with sr := { s.sr with esdRaw := level, esdTimer := some 0 } }))
  ∧ (∀ (s : State) (n : Nat), s.sr.esdRaw = .asserted → s.sr.esdLevel = .released →
      s.sr.esdTimer = some n → 20 ≤ n → s.told = none →
      exec .esdAssertionAccepted s = .next (queueAlert .esd .nothing 1 { s with
        sr := { s.sr with esdLevel := .asserted, esdTimer := none }
        parcels := Vector.ofFn fun p : ParcelNo =>
          let r := s.parcels[p]
          if r.state = .active ∨ r.state = .held then
            { r with state := .held, holds := { r.holds with esd := true } }
          else r }))
  ∧ (∀ (s : State) (n : Nat), s.sr.esdRaw = .released → s.sr.esdLevel = .asserted →
      s.sr.esdTimer = some n → 20 ≤ n → s.told = none →
      let t := { s with sr := { s.sr with esdLevel := .released, esdTimer := none, esdOwed := false } }
      exec .esdReleaseAccepted s = .next (if s.sr.esdOwed then t else queueAlert .esd .nothing 0 t))
  ∧ ∀ (s t : State) (n : Nat) (level : EsdLevel), s.sr.esdRaw = s.sr.esdLevel → s.sr.esdTimer = none →
      level ≠ s.sr.esdLevel →
      again n .referenceTick { s with sr := { s.sr with esdRaw := level, esdTimer := some 0 } } = .next t →
      (n < 20 → exec .esdAssertionAccepted t = .next (settleOwner t)
        ∧ exec .esdReleaseAccepted t = .next (settleOwner t)
        ∧ ∀ u, again n .referenceTick s = .next u →
          exec (.esdInputChange s.sr.esdLevel) t = exec (.esdInputChange s.sr.esdLevel) u)
      ∧ (20 ≤ n → (settle t).sr.esdLevel = level ∧ (settle t).sr.esdTimer = none
        ∧ ∀ u, exec (.esdInputChange s.sr.esdLevel) t = .next u →
          u.sr.esdLevel = level ∧ u.sr.esdRaw = s.sr.esdLevel ∧ u.sr.esdTimer = some 0)

/-! ### Chapter 10: sending -/

/-- Out of R172 and R177 to R183: the transmit state's moves, the offer at an idle bus of the lowest-numbered
pending slot, whose frame is driven with its slot's class, its kind, the node's address and its check value, a lost
frame back to pending, and a mismatch after the identifier, which sets MUTE and abandons the frame, kept pending in
its slot (log 5). A bus that carries a frame, the node's own or one being received, is not idle (log 12). -/
def Obligations.TransmitStateMoves : Prop :=
  ∀ s : State, Calm s →
    (s.bi.tx = .idle → s.bi.receiving = false →
      let idle := { s with bi := { s.bi with busIdle := true } }
      (s.bi.mute = true ∨ s.sr.stagger ≠ .ended ∨ (∀ (i : Fin 4) (f : TxFrame), s.slots[i] ≠ .pending f) →
        exec .busIdle s = .next idle)
      ∧ ∀ (i : Fin 4) (f : TxFrame), s.bi.mute = false → s.sr.stagger = .ended → s.slots[i] = .pending f →
        (∀ j : Fin 4, j < i → ∀ g, s.slots[j] ≠ .pending g) →
        exec .busIdle s = .next { s with
          slots := setPlace s.slots i (.inFlight f)
          bi := ⟨false, true, .arbitrating, false, some (drivenFrame i.val f.kind s.sr.address.val f.payload)⟩ })
    ∧ (s.bi.tx ≠ .idle ∨ s.bi.receiving = true → exec .busIdle s = .next s)
    ∧ (s.bi.tx = .idle → s.bi.busIdle = true →
        exec .startBit s = .next { s with bi := { s.bi with busIdle := false, receiving := true } })
    ∧ (s.bi.tx = .arbitrating →
        exec .identifierComplete s = .next { s with bi := { s.bi with tx := .sending } })
    ∧ ∀ (i : Fin 4) (f : TxFrame), s.slots[i] = .inFlight f → (∀ j : Fin 4, j ≠ i → ∀ g, s.slots[j] ≠ .inFlight g) →
        (s.bi.tx = .arbitrating → exec .lostArbitration s = .next { s with
          slots := setPlace s.slots i (.pending f)
          bi := { s.bi with tx := .idle, driven := none } })
        ∧ (s.bi.tx = .sending → exec .readbackClash s = .next { s with
          slots := setPlace s.slots i (.pending f)
          bi := { s.bi with tx := .idle, driven := none, mute := true }
          alertN := true })

/-- R184, with R189, R191 and R142: a frame sent empties its slot and its owner is told, in one act; in the owner's
own act the alert queue removes its head and loads the next, the query queue loads the next part or goes on to the
next query, and the summary round searches on. A sent ANNOUNCE tells nobody. When that act is taken has a statement
of its own (log 21); that a round that ends keeps its cursor is the model's (log 14). -/
def Obligations.FrameSentTellsOwner : Prop :=
  ∀ (s : State) (i : Fin 4) (f : TxFrame), Calm s → s.bi.tx = .sending → s.slots[i] = .inFlight f →
    (∀ j : Fin 4, j ≠ i → ∀ g, s.slots[j] ≠ .inFlight g) →
    let t := { s with
      bi := { s.bi with tx := .idle, receiving := false, driven := none }
      slots := setPlace s.slots i .empty }
    let load := fun (x : TxFrame) (u : State) => offer { u with slots := setPlace t.slots i (.pending x) }
    let summary := fun (p : ParcelNo) (pending : Bool) =>
      load ⟨.summary, summaryPayload s.sr.role p s.parcels[p]⟩ { t with round := ⟨true, p.val + 1, pending⟩ }
    let first := fun (cursor : Nat) (p : ParcelNo) => cursor ≤ p.val ∧ s.parcels[p].published.state ≠ .vacant
      ∧ ∀ q : ParcelNo, cursor ≤ q.val → q < p → s.parcels[q].published.state = .vacant
    let noneFrom := fun cursor => ∀ q : ParcelNo, cursor ≤ q.val → s.parcels[q].published.state = .vacant
    let act := settleOwner { t with told := some i }
    exec .frameSent s = .next { t with told := some i }
    ∧ (i = 0 →
      (∀ head, s.aq.records = [head] → act = { t with aq := { s.aq with records := [] } })
      ∧ ∀ head next rest, s.aq.records = head :: next :: rest →
        act = load (alertFrame next) { t with aq := { s.aq with records := next :: rest } })
    ∧ (i = 1 → ∀ b, s.qq.build = some b →
      (∀ part, b.parts[b.next]? = some part →
        act = load ⟨.answer, part⟩ { t with qq := ⟨s.qq.queries, some ⟨b.parts, b.next + 1⟩⟩ })
      ∧ (b.parts.length ≤ b.next →
        (∀ q, s.qq.queries = [q] → act = { t with qq := ⟨[], none⟩ })
        ∧ ∀ q next rest, s.qq.queries = q :: next :: rest →
          let parts := answerParts { t with qq := ⟨next :: rest, none⟩ } next
          ∃ part others, parts = part :: others
            ∧ act = load ⟨.answer, part⟩ { t with qq := ⟨next :: rest, some ⟨parts, 1⟩⟩ }))
    ∧ (i = 2 →
      (∀ p, first s.round.cursor p → act = summary p s.round.pending)
      ∧ (noneFrom s.round.cursor → s.round.pending = false →
          act = { t with round := { s.round with running := false } })
      ∧ (noneFrom s.round.cursor → s.round.pending = true →
          (∀ p, first 0 p → act = summary p false)
          ∧ (noneFrom 0 → act = { t with round := ⟨false, 0, false⟩ })))
    ∧ (i = 3 → act = t)

/-! ### Chapter 11: queries -/

/-- Out of R190 and R191: a QUERY for another node or of no kind, a query already queued and a fifth query are dropped
without trace; any other is appended, and in an empty queue its answer is frozen and its part 1 loaded at once. -/
def Obligations.QueriesAreQueued : Prop :=
  ∀ (c : Instr) (f : Frame) (a : Station) (s : State), frameOf c = some (.query, f) → From .query f a s →
    let m := decodeQuery f.payload
    let h := heardFrom a s
    (m.target ≠ s.sr.address.val ∨ m.kind = none → exec c s = .next h)
    ∧ ∀ kind, m.target = s.sr.address.val → m.kind = some kind →
      let q : Query := ⟨a, kind, if kind = .node then 0 else m.subject⟩
      (q ∈ s.qq.queries ∨ 4 ≤ s.qq.queries.length → exec c s = .next h)
      ∧ (q ∉ s.qq.queries → 1 ≤ s.qq.queries.length → s.qq.queries.length ≤ 3 →
          exec c s = .next { h with qq := { s.qq with queries := s.qq.queries ++ [q] } })
      ∧ (s.qq.queries = [] → s.slots[(1 : Fin 4)] = .empty →
          let parts := answerParts { h with qq := { s.qq with queries := [q] } } q
          ∃ part others, parts = part :: others ∧ exec c s = .next (offer { h with
            qq := ⟨[q], some ⟨parts, 1⟩⟩
            slots := setPlace s.slots 1 (.pending ⟨.answer, part⟩) }))

/-- Out of R191, R192 and R195: a subject that names nothing the node holds is answered with one part of three bytes,
ABSENT set; any other query with as many parts as Table 11-2 gives its kind, each of its length under the head of
querier, kind, part index and part count; and a console reads both standard volumes of a TANK answer back. -/
def Obligations.AnswersCarryTheirParts : Prop :=
  (∀ (s : State) (q : Query), WorkWithCurrent s →
    let absent := match q.kind with
      | .parcel => ∀ p : ParcelNo, q.subject.toNat = p.val → s.parcels[p].decl.current = none
      | .tank => ∀ k r, q.subject.toNat = keyCode k → s.tank? k = some r → r.decl.current = none
      | .meter => ∀ k r, q.subject.toNat = keyCode k → s.meter? k = some r → r.decl.current = none
      | .term => ∀ x : TermPos, q.subject.toNat = x.val → s.terms[x].decl.current = none
      | .node => False
      | .timer => 4 ≤ q.subject.toNat
    let kind := match q.kind with
      | .parcel => 1 | .tank => 2 | .meter => 3 | .term => 4 | .node => 5 | .timer => 6
    let lengths := match q.kind with
      | .parcel => [13, 13, 12] | .tank => [13] | .meter => [13, 13] | .term => [13] | .node => [13] | .timer => [5]
    (absent → answerParts s q
      = [[BitVec.ofNat 8 (q.querier.val + 128), BitVec.ofNat 8 (kind + 16 + 64), q.subject]])
    ∧ (¬absent → (answerParts s q).map List.length = lengths.map (· + 3)
        ∧ ∀ (i : Nat) (part : List Byte), (answerParts s q)[i]? = some part →
          part.take 3 = [BitVec.ofNat 8 q.querier.val,
            BitVec.ofNat 8 (kind + 16 * (i + 1) + 64 * lengths.length), q.subject]))
  ∧ ∀ (r : TankRec) (w : TankWork), w.current.getD 0 ≤ 105806999 → w.opening.getD 0 ≤ 105806999 →
      unsignedAt (tankPart r w) 6 7 / 134217728 = w.current.getD 0
        ∧ unsignedAt (tankPart r w) 6 7 % 134217728 = w.opening.getD 0

/-- Out of R193 to R195 and R154 with Table 11-2: the contents of every answer, from the records as they stand: `b
i` is byte `i` of a part's content, which follows the three bytes of its head, a field that is absent is 0, and a
reader of the bytes named finds the field again. -/
def Obligations.AnswersShowTheRecords : Prop :=
  ∀ (s : State) (q : Query), TablesSound s →
    let byte := fun (part : List Byte) i => (byteAt part (i + 3)).toNat
    let word := fun (part : List Byte) i => unsignedAt part (i + 3) 2
    let signed := fun (part : List Byte) i => signed32At part (i + 3)
    let bit := fun (part : List Byte) i n (b : Bool) => byte part i / 2 ^ n % 2 = b.toNat
    let rev := fun {α : Type} (c : Option (Copy α)) => match c with | some x => x.rev.toNat | none => 0
    let state := fun x : ParcelState => match x with
      | .vacant => 0 | .declared => 1 | .active => 2 | .held => 3 | .closed => 4
    let small := fun x : Int => x.natAbs ≤ 2147483647
    (∀ (p : ParcelNo) (c : Copy ParcelDecl), q.kind = .parcel → q.subject.toNat = p.val →
      s.parcels[p].decl.current = some c →
      let r := s.parcels[p]
      let d := c.contents
      let f := r.published.figures
      let mark := match r.pendingMark with
        | some ⟨.openParcel, _⟩ => 1 | some ⟨.closeParcel, _⟩ => 2 | some ⟨.releaseParcel, _⟩ => 3 | none => 0
      let entries := s.peers.filter fun e => decide (e.parcel = p)
      ∃ x y z, answerParts s q = [x, y, z]
        ∧ (byte x 0 % 8 = state r.state ∧ bit x 0 3 r.decl.staged.isSome ∧ byte x 0 / 16 % 4 = d.depthCode.val
          ∧ byte x 0 / 64 = mark ∧ byte x 1 = c.rev.toNat ∧ byte x 2 = rev r.decl.staged
          ∧ bit x 3 0 (decide (d.direction = .discharge)) ∧ byte x 3 / 2 % 4 = d.cls.val
          ∧ bit x 3 3 (decide (d.basis = .meter)) ∧ byte x 3 / 16 % 4 = d.option.val ∧ bit x 3 6 d.mask
          ∧ (d.density < 65536 → word x 4 = d.density) ∧ (d.vef < 65536 → word x 6 = d.vef)
          ∧ (d.tolerance < 256 → byte x 8 = d.tolerance) ∧ (d.floor < 65536 → word x 9 = d.floor)
          ∧ byte x 11 = d.grade.toNat
          ∧ byte x 12 = match r.pendingMark with | some m => m.expected.toNat | none => 0)
        ∧ (byte y 0 % 16 = state r.published.state ∧ bit y 0 6 f.saturated ∧ bit y 0 7 r.published.closedWhileHeld
          ∧ (small f.sAdj → signed y 1 = f.sAdj) ∧ (small f.hTank → signed y 5 = f.hTank)
          ∧ (small f.hMeter → signed y 9 = f.hMeter))
        ∧ (bit z 0 0 r.excursion ∧ bit z 0 1 r.peerDiverge ∧ bit z 0 2 r.holds.tankStale
          ∧ bit z 0 3 r.holds.meterStale ∧ bit z 0 4 r.holds.esd ∧ bit z 0 5 r.holds.excursionHold
          ∧ bit z 0 6 r.saturation ∧ bit z 0 7 r.closing
          ∧ (r.count ≤ 7 → byte z 1 = r.count + 8 * entries.length)
          ∧ byte z 2 % 32 = entries.countP (fun e => e.planDiffers)
          ∧ (small r.meterTotal → signed z 8 = r.meterTotal)
          ∧ (entries = [] → byte z 2 / 32 = 0 ∧ byte z 3 = 0 ∧ signed z 4 = 0)
          ∧ ∀ e ∈ entries, e.count ≤ 3 →
              (∀ o ∈ entries, o.count < e.count ∨ (o.count = e.count ∧ e.peer ≤ o.peer)) →
              byte z 2 / 32 = state e.state ∧ byte z 3 = e.peer.val + 64 * e.count
                ∧ (small e.d → signed z 4 = e.d)))
    ∧ (∀ (k : Key) (r : TankRec) (w : TankWork), q.kind = .tank → q.subject.toNat = k.station.val * 4 + k.index.val →
      s.tank? k = some r → r.work = some w → w.confirm ≤ 2 →
      ∃ x, answerParts s q = [x]
        ∧ bit x 0 0 (decide (w.side = .shore)) ∧ bit x 0 1 w.gaugeInvalid ∧ bit x 0 2 w.volumeClamped
        ∧ bit x 0 3 w.tempClamped ∧ bit x 0 4 w.rebased ∧ byte x 0 / 32 % 4 = w.confirm
        ∧ bit x 0 7 r.decl.staged.isSome
        ∧ byte x 1 % 16 = (match w.parcel with | some p => p.val | none => 15)
        ∧ bit x 1 4 w.reading.isSome ∧ bit x 1 5 w.current.isSome ∧ bit x 1 6 w.opening.isSome
        ∧ byte x 2 = rev r.decl.current ∧ byte x 3 = rev r.decl.staged
        ∧ (w.reading = none → word x 4 = 0)
        ∧ (∀ g, w.reading = some g → -32768 ≤ g.temp → g.temp ≤ 32767 → signed16At x 7 = g.temp)
        ∧ (w.current.getD 0 < 134217728 → w.opening.getD 0 < 134217728 →
            unsignedAt x 9 7 / 134217728 = w.current.getD 0 ∧ unsignedAt x 9 7 % 134217728 = w.opening.getD 0))
    ∧ (∀ (k : Key) (r : MeterRec) (w : MeterWork), q.kind = .meter → q.subject.toNat = k.station.val * 4 + k.index.val →
      s.meter? k = some r → r.work = some w → MeterSound w →
      ∃ x y, answerParts s q = [x, y]
        ∧ bit x 0 0 w.breakSeen ∧ bit x 0 1 w.deferred ∧ bit x 0 2 w.tempClamped ∧ bit x 0 3 w.reading.isSome
        ∧ bit x 0 4 w.baseline.isSome ∧ bit x 0 5 r.decl.staged.isSome
        ∧ byte x 1 = rev r.decl.current ∧ byte x 2 = rev r.decl.staged ∧ word x 3 + 95000 = w.factor
        ∧ unsignedAt x 8 3 = (match w.reading with | some g => g.cumulative.toNat | none => 0)
        ∧ (w.reading = none → word x 8 = 0)
        ∧ (∀ g, w.reading = some g → -32768 ≤ g.temp → g.temp ≤ 32767 → signed16At x 11 = g.temp)
        ∧ unsignedAt x 13 3 = (match w.baseline with | some b => b.toNat | none => 0)
        ∧ unsignedAt y 3 4 = w.routed ∧ unsignedAt y 7 4 = w.conflict ∧ unsignedAt y 11 4 = w.unrouted
        ∧ byte y 12 = w.residue / 100000000)
    ∧ (∀ t : TermPos, q.kind = .term → q.subject.toNat = t.val → s.terms[t].decl.current.isSome = true →
      let r := s.terms[t]
      ∃ x, answerParts s q = [x]
        ∧ bit x 0 0 r.term.isSome ∧ bit x 0 1 r.decl.staged.isSome
        ∧ byte x 1 = rev r.decl.current ∧ byte x 2 = rev r.decl.staged
        ∧ (r.term = none → byte x 3 = 0 ∧ byte x 4 = 15 ∧ ∀ i, i < 8 → byte x (5 + i) = 0)
        ∧ ∀ v, r.term = some v → v.literals.length ≤ 4 →
          byte x 3 = v.meter.station.val * 4 + v.meter.index.val ∧ byte x 4 = v.parcel.val + 16 * v.literals.length
            ∧ ∀ i, i < 4 →
              (∀ l, v.literals[i]? = some l →
                byte x (5 + 2 * i) = l.station.val * 4 + (if l.needOpen then 0 else 1)
                  ∧ byte x (6 + 2 * i) = l.valve.val)
              ∧ (v.literals[i]? = none → byte x (5 + 2 * i) = 0 ∧ byte x (6 + 2 * i) = 0))
    ∧ (q.kind = .node →
      ∃ x, answerParts s q = [x]
        ∧ byte x 0 % 4 = (match s.sr.role with | .ship => 1 | .shore => 2 | .independent => 3)
        ∧ bit x 0 4 (decide (s.sr.esdLevel = .asserted)) ∧ bit x 0 5 s.aq.withheld ∧ bit x 0 6 s.ee.overrun
        ∧ byte x 1 = s.sr.address.val ∧ unsignedAt x 5 4 = s.sr.clock.toNat
        ∧ byte x 6 = s.tanks.length ∧ byte x 7 = s.meters.length
        ∧ byte x 8 = (List.finRange 24).countP (fun t => (s.terms[t]).term.isSome)
        ∧ byte x 9 = s.valves.length ∧ byte x 10 = s.peers.length
        ∧ (s.aq.records.length ≤ 16 → byte x 11 = s.aq.records.length)
        ∧ (s.qq.queries.length ≤ 4 → byte x 12 = s.qq.queries.length))
    ∧ ∀ i : TimerNo, q.kind = .timer → q.subject.toNat = i.val →
      let t := s.ct.timers[i]
      ∃ x, answerParts s q = [x]
        ∧ bit x 0 0 (decide (t.params.mode = .count)) ∧ bit x 0 1 (decide (t.params.prescale = .by100))
        ∧ bit x 0 2 (decide (t.run = .halted))
        ∧ (1 ≤ t.params.constant → t.params.constant ≤ 256 →
            byte x 1 = if t.params.constant = 256 then 0 else t.params.constant)
        ∧ (t.count ≤ 256 → word x 2 = t.count)
        ∧ (s.ct.staleLimit ≤ 15 → byte x 4 = if i = 2 then s.ct.staleLimit else 0)

/-! ### Invariants -/

/-- Out of R135, R155 to R157, R166 to R168, R172, R173, R178, R181 and R182: whatever the node's state and whatever the
command, a step keeps ALERT_N at its condition; at most one frame of the node on the bus, none while MUTE or in the
stagger, driven with its slot's class, its kind, the node's address and its check value; each timer's count and constant
in 1..256 and its phase below the prescale, T3 HALTED while the stagger runs unless a CADENCE frame has set it, the stale
limit in 1..15; and every station's age in 0..15. -/
def Obligations.StepsKeepBusAndTimers : Prop :=
  ∀ s t : State, step s = .next t →
    (LineFollows s → LineFollows t)
      ∧ (OneFrameOnBus s → OneFrameOnBus t)
      ∧ (TimersSound s → TimersSound t)
      ∧ (AgesSound s → AgesSound t)

/-- Out of R140, R144, R184 and R187 to R191: every step keeps the alert queue at 16 records or fewer, none alike
in cause and subject, and the query queue at 4 queries or fewer, none alike, each with its slot full exactly while
it holds something, but between a frame's sending and its owner's act (log 21); and the summary round with its slot
and cursor. The queue of waiting commands, which is the model's own (log 6), gives up its front and keeps its
rest. -/
def Obligations.StepsKeepQueues : Prop :=
  ∀ s t : State, step s = .next t →
    t.pending = s.pending.tail
      ∧ (AlertQueueSound s → AlertQueueSound t)
      ∧ (QueryQueueSound s → QueryQueueSound t)
      ∧ (RoundSound s → RoundSound t)

/-- Out of R26, R27, R29, R40, R59, R66 and R145: every step keeps the four tables with one record for each key and
within their capacities, the valve table to the stations that current terms name, each record's revisions running
forward, and its working fields beside a current declaration alone. The tables stay within their capacities where
the valve table is the one that the current terms name. That a table is a list in ascending key order is the
model's way of holding it (log 24): the rules give its records no order that affects behaviour. -/
def Obligations.StepsKeepTables : Prop :=
  ∀ s t : State, step s = .next t →
    (TablesSound s → ValvesNamed s → TablesSound t)
      ∧ (ValvesNamed s → ValvesNamed t)
      ∧ (RevisionsForward s → RevisionsForward t)
      ∧ (WorkWithCurrent s → WorkWithCurrent t)

/-- Out of R84, R90, R105, R109, R115, R125, R59, R77, R79, R40 and R49: every step keeps the engine's buffers to
the stages that use them, each parcel's α, hold causes, count and running total within their rules, and each
meter's and tank's working fields within their ranges. It keeps the engine's count of the records that a stage has
dealt with as well, which is the model's own field, named by no rule (log 10): 0 outside the stages that count, and
no evaluated set at stage 7 from it on. -/
def Obligations.StepsKeepRecords : Prop :=
  ∀ s t : State, step s = .next t →
    (EngineSound s → EngineSound t)
      ∧ (ParcelsSound s → ParcelsSound t)
      ∧ (MetersSound s → MetersSound t)
      ∧ (GaugesSound s → GaugesSound t)

/-- Out of R55 and R53: the law that every tank assigned to an opened parcel has an opening standard volume, with
the current volume, the last accepted reading and the snapshot entry it rests on: every step keeps it. The order of
the tables (log 24) and the engine's count of records dealt with (log 10), which the law's invariant leans on, are
the model's own. -/
def Obligations.StepsKeepOpeningVolumes : Prop :=
  (∀ s t : State, step s = .next t → VolumesSound s → VolumesSound t)
    ∧ ∀ (s : State) (r : TankRec) (w : TankWork) (p : ParcelNo), VolumesSound s → r ∈ s.tanks → r.work = some w →
      w.parcel = some p → s.parcels[p].state = .active ∨ s.parcels[p].state = .held ∨ s.parcels[p].state = .closed →
      ∃ o c, w.opening = some o ∧ w.current = some c

/-- The machine right after reset meets every invariant, and so does the node after either reset, with any straps
and any level of the ESD input. The straps and level of the reset state itself are the model's choice (log 1), as
are the order of the tables (log 24) and the engine's count of records dealt with (log 10), which the invariants
speak of. -/
def Obligations.ResetsMeetInvariants : Prop :=
  let sound := fun s : State => LineFollows s ∧ OneFrameOnBus s ∧ AlertQueueSound s ∧ QueryQueueSound s
    ∧ RoundSound s ∧ TimersSound s ∧ AgesSound s ∧ TablesSound s ∧ ValvesNamed s ∧ RevisionsForward s
    ∧ WorkWithCurrent s ∧ EngineSound s ∧ ParcelsSound s ∧ MetersSound s ∧ GaugesSound s ∧ VolumesSound s
  sound State.reset
    ∧ ∀ (s t : State) (straps : Straps) (esd : EsdLevel),
      exec (.powerOnReset straps esd) s = .next t ∨ exec (.resetN esd) s = .next t → sound t
end

