-- ==== Sys2Proof/Laws/State.lean ====
section
/-! SUPPORT. What each named update of the state leaves in every field: one lemma per field and update, so
that no proof unfolds a record update. -/

namespace Sys2Proof.Laws

open Machine

variable (s : State)

/-! ### putTank -/

@[simp] theorem putTank_sr (r : TankRec) : (s.putTank r).sr = s.sr := rfl
@[simp] theorem putTank_bi (r : TankRec) : (s.putTank r).bi = s.bi := rfl
@[simp] theorem putTank_slots (r : TankRec) : (s.putTank r).slots = s.slots := rfl
@[simp] theorem putTank_told (r : TankRec) : (s.putTank r).told = s.told := rfl
@[simp] theorem putTank_tanks (r : TankRec) : (s.putTank r).tanks = putRec tankOrd r s.tanks := rfl
@[simp] theorem putTank_meters (r : TankRec) : (s.putTank r).meters = s.meters := rfl
@[simp] theorem putTank_valves (r : TankRec) : (s.putTank r).valves = s.valves := rfl
@[simp] theorem putTank_terms (r : TankRec) : (s.putTank r).terms = s.terms := rfl
@[simp] theorem putTank_parcels (r : TankRec) : (s.putTank r).parcels = s.parcels := rfl
@[simp] theorem putTank_ee (r : TankRec) : (s.putTank r).ee = s.ee := rfl
@[simp] theorem putTank_round (r : TankRec) : (s.putTank r).round = s.round := rfl
@[simp] theorem putTank_peers (r : TankRec) : (s.putTank r).peers = s.peers := rfl
@[simp] theorem putTank_ct (r : TankRec) : (s.putTank r).ct = s.ct := rfl
@[simp] theorem putTank_fresh (r : TankRec) : (s.putTank r).fresh = s.fresh := rfl
@[simp] theorem putTank_aq (r : TankRec) : (s.putTank r).aq = s.aq := rfl
@[simp] theorem putTank_qq (r : TankRec) : (s.putTank r).qq = s.qq := rfl
@[simp] theorem putTank_alertN (r : TankRec) : (s.putTank r).alertN = s.alertN := rfl
@[simp] theorem putTank_freeIndex (r : TankRec) : (s.putTank r).freeIndex = s.freeIndex := rfl
@[simp] theorem putTank_pending (r : TankRec) : (s.putTank r).pending = s.pending := rfl

/-! ### putMeter -/

@[simp] theorem putMeter_sr (r : MeterRec) : (s.putMeter r).sr = s.sr := rfl
@[simp] theorem putMeter_bi (r : MeterRec) : (s.putMeter r).bi = s.bi := rfl
@[simp] theorem putMeter_slots (r : MeterRec) : (s.putMeter r).slots = s.slots := rfl
@[simp] theorem putMeter_told (r : MeterRec) : (s.putMeter r).told = s.told := rfl
@[simp] theorem putMeter_tanks (r : MeterRec) : (s.putMeter r).tanks = s.tanks := rfl
@[simp] theorem putMeter_meters (r : MeterRec) : (s.putMeter r).meters = putRec meterOrd r s.meters := rfl
@[simp] theorem putMeter_valves (r : MeterRec) : (s.putMeter r).valves = s.valves := rfl
@[simp] theorem putMeter_terms (r : MeterRec) : (s.putMeter r).terms = s.terms := rfl
@[simp] theorem putMeter_parcels (r : MeterRec) : (s.putMeter r).parcels = s.parcels := rfl
@[simp] theorem putMeter_ee (r : MeterRec) : (s.putMeter r).ee = s.ee := rfl
@[simp] theorem putMeter_round (r : MeterRec) : (s.putMeter r).round = s.round := rfl
@[simp] theorem putMeter_peers (r : MeterRec) : (s.putMeter r).peers = s.peers := rfl
@[simp] theorem putMeter_ct (r : MeterRec) : (s.putMeter r).ct = s.ct := rfl
@[simp] theorem putMeter_fresh (r : MeterRec) : (s.putMeter r).fresh = s.fresh := rfl
@[simp] theorem putMeter_aq (r : MeterRec) : (s.putMeter r).aq = s.aq := rfl
@[simp] theorem putMeter_qq (r : MeterRec) : (s.putMeter r).qq = s.qq := rfl
@[simp] theorem putMeter_alertN (r : MeterRec) : (s.putMeter r).alertN = s.alertN := rfl
@[simp] theorem putMeter_freeIndex (r : MeterRec) : (s.putMeter r).freeIndex = s.freeIndex := rfl
@[simp] theorem putMeter_pending (r : MeterRec) : (s.putMeter r).pending = s.pending := rfl

/-! ### putValve -/

@[simp] theorem putValve_sr (e : ValveEntry) : (s.putValve e).sr = s.sr := rfl
@[simp] theorem putValve_bi (e : ValveEntry) : (s.putValve e).bi = s.bi := rfl
@[simp] theorem putValve_slots (e : ValveEntry) : (s.putValve e).slots = s.slots := rfl
@[simp] theorem putValve_told (e : ValveEntry) : (s.putValve e).told = s.told := rfl
@[simp] theorem putValve_tanks (e : ValveEntry) : (s.putValve e).tanks = s.tanks := rfl
@[simp] theorem putValve_meters (e : ValveEntry) : (s.putValve e).meters = s.meters := rfl
@[simp] theorem putValve_valves (e : ValveEntry) : (s.putValve e).valves = putRec valveOrd e s.valves := rfl
@[simp] theorem putValve_terms (e : ValveEntry) : (s.putValve e).terms = s.terms := rfl
@[simp] theorem putValve_parcels (e : ValveEntry) : (s.putValve e).parcels = s.parcels := rfl
@[simp] theorem putValve_ee (e : ValveEntry) : (s.putValve e).ee = s.ee := rfl
@[simp] theorem putValve_round (e : ValveEntry) : (s.putValve e).round = s.round := rfl
@[simp] theorem putValve_peers (e : ValveEntry) : (s.putValve e).peers = s.peers := rfl
@[simp] theorem putValve_ct (e : ValveEntry) : (s.putValve e).ct = s.ct := rfl
@[simp] theorem putValve_fresh (e : ValveEntry) : (s.putValve e).fresh = s.fresh := rfl
@[simp] theorem putValve_aq (e : ValveEntry) : (s.putValve e).aq = s.aq := rfl
@[simp] theorem putValve_qq (e : ValveEntry) : (s.putValve e).qq = s.qq := rfl
@[simp] theorem putValve_alertN (e : ValveEntry) : (s.putValve e).alertN = s.alertN := rfl
@[simp] theorem putValve_freeIndex (e : ValveEntry) : (s.putValve e).freeIndex = s.freeIndex := rfl
@[simp] theorem putValve_pending (e : ValveEntry) : (s.putValve e).pending = s.pending := rfl

/-! ### putPeer -/

@[simp] theorem putPeer_sr (e : PeerEntry) : (s.putPeer e).sr = s.sr := rfl
@[simp] theorem putPeer_bi (e : PeerEntry) : (s.putPeer e).bi = s.bi := rfl
@[simp] theorem putPeer_slots (e : PeerEntry) : (s.putPeer e).slots = s.slots := rfl
@[simp] theorem putPeer_told (e : PeerEntry) : (s.putPeer e).told = s.told := rfl
@[simp] theorem putPeer_tanks (e : PeerEntry) : (s.putPeer e).tanks = s.tanks := rfl
@[simp] theorem putPeer_meters (e : PeerEntry) : (s.putPeer e).meters = s.meters := rfl
@[simp] theorem putPeer_valves (e : PeerEntry) : (s.putPeer e).valves = s.valves := rfl
@[simp] theorem putPeer_terms (e : PeerEntry) : (s.putPeer e).terms = s.terms := rfl
@[simp] theorem putPeer_parcels (e : PeerEntry) : (s.putPeer e).parcels = s.parcels := rfl
@[simp] theorem putPeer_ee (e : PeerEntry) : (s.putPeer e).ee = s.ee := rfl
@[simp] theorem putPeer_round (e : PeerEntry) : (s.putPeer e).round = s.round := rfl
@[simp] theorem putPeer_peers (e : PeerEntry) : (s.putPeer e).peers = putRec peerOrd e s.peers := rfl
@[simp] theorem putPeer_ct (e : PeerEntry) : (s.putPeer e).ct = s.ct := rfl
@[simp] theorem putPeer_fresh (e : PeerEntry) : (s.putPeer e).fresh = s.fresh := rfl
@[simp] theorem putPeer_aq (e : PeerEntry) : (s.putPeer e).aq = s.aq := rfl
@[simp] theorem putPeer_qq (e : PeerEntry) : (s.putPeer e).qq = s.qq := rfl
@[simp] theorem putPeer_alertN (e : PeerEntry) : (s.putPeer e).alertN = s.alertN := rfl
@[simp] theorem putPeer_freeIndex (e : PeerEntry) : (s.putPeer e).freeIndex = s.freeIndex := rfl
@[simp] theorem putPeer_pending (e : PeerEntry) : (s.putPeer e).pending = s.pending := rfl

/-! ### dropTank -/

@[simp] theorem dropTank_sr (k : Key) : (s.dropTank k).sr = s.sr := rfl
@[simp] theorem dropTank_bi (k : Key) : (s.dropTank k).bi = s.bi := rfl
@[simp] theorem dropTank_slots (k : Key) : (s.dropTank k).slots = s.slots := rfl
@[simp] theorem dropTank_told (k : Key) : (s.dropTank k).told = s.told := rfl
@[simp] theorem dropTank_tanks (k : Key) : (s.dropTank k).tanks = dropRec tankOrd (keyCode k) s.tanks := rfl
@[simp] theorem dropTank_meters (k : Key) : (s.dropTank k).meters = s.meters := rfl
@[simp] theorem dropTank_valves (k : Key) : (s.dropTank k).valves = s.valves := rfl
@[simp] theorem dropTank_terms (k : Key) : (s.dropTank k).terms = s.terms := rfl
@[simp] theorem dropTank_parcels (k : Key) : (s.dropTank k).parcels = s.parcels := rfl
@[simp] theorem dropTank_ee (k : Key) : (s.dropTank k).ee = s.ee := rfl
@[simp] theorem dropTank_round (k : Key) : (s.dropTank k).round = s.round := rfl
@[simp] theorem dropTank_peers (k : Key) : (s.dropTank k).peers = s.peers := rfl
@[simp] theorem dropTank_ct (k : Key) : (s.dropTank k).ct = s.ct := rfl
@[simp] theorem dropTank_fresh (k : Key) : (s.dropTank k).fresh = s.fresh := rfl
@[simp] theorem dropTank_aq (k : Key) : (s.dropTank k).aq = s.aq := rfl
@[simp] theorem dropTank_qq (k : Key) : (s.dropTank k).qq = s.qq := rfl
@[simp] theorem dropTank_alertN (k : Key) : (s.dropTank k).alertN = s.alertN := rfl
@[simp] theorem dropTank_freeIndex (k : Key) : (s.dropTank k).freeIndex = s.freeIndex := rfl
@[simp] theorem dropTank_pending (k : Key) : (s.dropTank k).pending = s.pending := rfl

/-! ### dropMeter -/

@[simp] theorem dropMeter_sr (k : Key) : (s.dropMeter k).sr = s.sr := rfl
@[simp] theorem dropMeter_bi (k : Key) : (s.dropMeter k).bi = s.bi := rfl
@[simp] theorem dropMeter_slots (k : Key) : (s.dropMeter k).slots = s.slots := rfl
@[simp] theorem dropMeter_told (k : Key) : (s.dropMeter k).told = s.told := rfl
@[simp] theorem dropMeter_tanks (k : Key) : (s.dropMeter k).tanks = s.tanks := rfl
@[simp] theorem dropMeter_meters (k : Key) :
    (s.dropMeter k).meters = dropRec meterOrd (keyCode k) s.meters := rfl
@[simp] theorem dropMeter_valves (k : Key) : (s.dropMeter k).valves = s.valves := rfl
@[simp] theorem dropMeter_terms (k : Key) : (s.dropMeter k).terms = s.terms := rfl
@[simp] theorem dropMeter_parcels (k : Key) : (s.dropMeter k).parcels = s.parcels := rfl
@[simp] theorem dropMeter_ee (k : Key) : (s.dropMeter k).ee = s.ee := rfl
@[simp] theorem dropMeter_round (k : Key) : (s.dropMeter k).round = s.round := rfl
@[simp] theorem dropMeter_peers (k : Key) : (s.dropMeter k).peers = s.peers := rfl
@[simp] theorem dropMeter_ct (k : Key) : (s.dropMeter k).ct = s.ct := rfl
@[simp] theorem dropMeter_fresh (k : Key) : (s.dropMeter k).fresh = s.fresh := rfl
@[simp] theorem dropMeter_aq (k : Key) : (s.dropMeter k).aq = s.aq := rfl
@[simp] theorem dropMeter_qq (k : Key) : (s.dropMeter k).qq = s.qq := rfl
@[simp] theorem dropMeter_alertN (k : Key) : (s.dropMeter k).alertN = s.alertN := rfl
@[simp] theorem dropMeter_freeIndex (k : Key) : (s.dropMeter k).freeIndex = s.freeIndex := rfl
@[simp] theorem dropMeter_pending (k : Key) : (s.dropMeter k).pending = s.pending := rfl

/-! ### putParcel -/

@[simp] theorem putParcel_sr (p : ParcelNo) (r : ParcelRec) : (s.putParcel p r).sr = s.sr := rfl
@[simp] theorem putParcel_bi (p : ParcelNo) (r : ParcelRec) : (s.putParcel p r).bi = s.bi := rfl
@[simp] theorem putParcel_slots (p : ParcelNo) (r : ParcelRec) : (s.putParcel p r).slots = s.slots := rfl
@[simp] theorem putParcel_told (p : ParcelNo) (r : ParcelRec) : (s.putParcel p r).told = s.told := rfl
@[simp] theorem putParcel_tanks (p : ParcelNo) (r : ParcelRec) : (s.putParcel p r).tanks = s.tanks := rfl
@[simp] theorem putParcel_meters (p : ParcelNo) (r : ParcelRec) : (s.putParcel p r).meters = s.meters := rfl
@[simp] theorem putParcel_valves (p : ParcelNo) (r : ParcelRec) : (s.putParcel p r).valves = s.valves := rfl
@[simp] theorem putParcel_terms (p : ParcelNo) (r : ParcelRec) : (s.putParcel p r).terms = s.terms := rfl
@[simp] theorem putParcel_parcels (p : ParcelNo) (r : ParcelRec) :
    (s.putParcel p r).parcels = setPlace s.parcels p r := rfl
@[simp] theorem putParcel_ee (p : ParcelNo) (r : ParcelRec) : (s.putParcel p r).ee = s.ee := rfl
@[simp] theorem putParcel_round (p : ParcelNo) (r : ParcelRec) : (s.putParcel p r).round = s.round := rfl
@[simp] theorem putParcel_peers (p : ParcelNo) (r : ParcelRec) : (s.putParcel p r).peers = s.peers := rfl
@[simp] theorem putParcel_ct (p : ParcelNo) (r : ParcelRec) : (s.putParcel p r).ct = s.ct := rfl
@[simp] theorem putParcel_fresh (p : ParcelNo) (r : ParcelRec) : (s.putParcel p r).fresh = s.fresh := rfl
@[simp] theorem putParcel_aq (p : ParcelNo) (r : ParcelRec) : (s.putParcel p r).aq = s.aq := rfl
@[simp] theorem putParcel_qq (p : ParcelNo) (r : ParcelRec) : (s.putParcel p r).qq = s.qq := rfl
@[simp] theorem putParcel_alertN (p : ParcelNo) (r : ParcelRec) : (s.putParcel p r).alertN = s.alertN := rfl
@[simp] theorem putParcel_freeIndex (p : ParcelNo) (r : ParcelRec) :
    (s.putParcel p r).freeIndex = s.freeIndex := rfl
@[simp] theorem putParcel_pending (p : ParcelNo) (r : ParcelRec) :
    (s.putParcel p r).pending = s.pending := rfl

/-! ### putTerm -/

@[simp] theorem putTerm_sr (t : TermPos) (r : TermRec) : (s.putTerm t r).sr = s.sr := rfl
@[simp] theorem putTerm_bi (t : TermPos) (r : TermRec) : (s.putTerm t r).bi = s.bi := rfl
@[simp] theorem putTerm_slots (t : TermPos) (r : TermRec) : (s.putTerm t r).slots = s.slots := rfl
@[simp] theorem putTerm_told (t : TermPos) (r : TermRec) : (s.putTerm t r).told = s.told := rfl
@[simp] theorem putTerm_tanks (t : TermPos) (r : TermRec) : (s.putTerm t r).tanks = s.tanks := rfl
@[simp] theorem putTerm_meters (t : TermPos) (r : TermRec) : (s.putTerm t r).meters = s.meters := rfl
@[simp] theorem putTerm_valves (t : TermPos) (r : TermRec) : (s.putTerm t r).valves = s.valves := rfl
@[simp] theorem putTerm_terms (t : TermPos) (r : TermRec) :
    (s.putTerm t r).terms = setPlace s.terms t r := rfl
@[simp] theorem putTerm_parcels (t : TermPos) (r : TermRec) : (s.putTerm t r).parcels = s.parcels := rfl
@[simp] theorem putTerm_ee (t : TermPos) (r : TermRec) : (s.putTerm t r).ee = s.ee := rfl
@[simp] theorem putTerm_round (t : TermPos) (r : TermRec) : (s.putTerm t r).round = s.round := rfl
@[simp] theorem putTerm_peers (t : TermPos) (r : TermRec) : (s.putTerm t r).peers = s.peers := rfl
@[simp] theorem putTerm_ct (t : TermPos) (r : TermRec) : (s.putTerm t r).ct = s.ct := rfl
@[simp] theorem putTerm_fresh (t : TermPos) (r : TermRec) : (s.putTerm t r).fresh = s.fresh := rfl
@[simp] theorem putTerm_aq (t : TermPos) (r : TermRec) : (s.putTerm t r).aq = s.aq := rfl
@[simp] theorem putTerm_qq (t : TermPos) (r : TermRec) : (s.putTerm t r).qq = s.qq := rfl
@[simp] theorem putTerm_alertN (t : TermPos) (r : TermRec) : (s.putTerm t r).alertN = s.alertN := rfl
@[simp] theorem putTerm_freeIndex (t : TermPos) (r : TermRec) :
    (s.putTerm t r).freeIndex = s.freeIndex := rfl
@[simp] theorem putTerm_pending (t : TermPos) (r : TermRec) : (s.putTerm t r).pending = s.pending := rfl

/-! ### mapTimer -/

@[simp] theorem mapTimer_sr (i : TimerNo) (f : Timer → Timer) : (s.mapTimer i f).sr = s.sr := rfl
@[simp] theorem mapTimer_bi (i : TimerNo) (f : Timer → Timer) : (s.mapTimer i f).bi = s.bi := rfl
@[simp] theorem mapTimer_slots (i : TimerNo) (f : Timer → Timer) : (s.mapTimer i f).slots = s.slots := rfl
@[simp] theorem mapTimer_told (i : TimerNo) (f : Timer → Timer) : (s.mapTimer i f).told = s.told := rfl
@[simp] theorem mapTimer_tanks (i : TimerNo) (f : Timer → Timer) : (s.mapTimer i f).tanks = s.tanks := rfl
@[simp] theorem mapTimer_meters (i : TimerNo) (f : Timer → Timer) :
    (s.mapTimer i f).meters = s.meters := rfl
@[simp] theorem mapTimer_valves (i : TimerNo) (f : Timer → Timer) :
    (s.mapTimer i f).valves = s.valves := rfl
@[simp] theorem mapTimer_terms (i : TimerNo) (f : Timer → Timer) : (s.mapTimer i f).terms = s.terms := rfl
@[simp] theorem mapTimer_parcels (i : TimerNo) (f : Timer → Timer) :
    (s.mapTimer i f).parcels = s.parcels := rfl
@[simp] theorem mapTimer_ee (i : TimerNo) (f : Timer → Timer) : (s.mapTimer i f).ee = s.ee := rfl
@[simp] theorem mapTimer_round (i : TimerNo) (f : Timer → Timer) : (s.mapTimer i f).round = s.round := rfl
@[simp] theorem mapTimer_peers (i : TimerNo) (f : Timer → Timer) : (s.mapTimer i f).peers = s.peers := rfl
@[simp] theorem mapTimer_ct (i : TimerNo) (f : Timer → Timer) :
    (s.mapTimer i f).ct = { s.ct with timers := setPlace s.ct.timers i (f s.ct.timers[i]) } := rfl
@[simp] theorem mapTimer_fresh (i : TimerNo) (f : Timer → Timer) : (s.mapTimer i f).fresh = s.fresh := rfl
@[simp] theorem mapTimer_aq (i : TimerNo) (f : Timer → Timer) : (s.mapTimer i f).aq = s.aq := rfl
@[simp] theorem mapTimer_qq (i : TimerNo) (f : Timer → Timer) : (s.mapTimer i f).qq = s.qq := rfl
@[simp] theorem mapTimer_alertN (i : TimerNo) (f : Timer → Timer) :
    (s.mapTimer i f).alertN = s.alertN := rfl
@[simp] theorem mapTimer_freeIndex (i : TimerNo) (f : Timer → Timer) :
    (s.mapTimer i f).freeIndex = s.freeIndex := rfl
@[simp] theorem mapTimer_pending (i : TimerNo) (f : Timer → Timer) :
    (s.mapTimer i f).pending = s.pending := rfl

/-! ### judged -/

@[simp] theorem judged_sr : (judged s).sr = s.sr := rfl
@[simp] theorem judged_bi : (judged s).bi = { s.bi with receiving := false } := rfl
@[simp] theorem judged_slots : (judged s).slots = s.slots := rfl
@[simp] theorem judged_told : (judged s).told = s.told := rfl
@[simp] theorem judged_tanks : (judged s).tanks = s.tanks := rfl
@[simp] theorem judged_meters : (judged s).meters = s.meters := rfl
@[simp] theorem judged_valves : (judged s).valves = s.valves := rfl
@[simp] theorem judged_terms : (judged s).terms = s.terms := rfl
@[simp] theorem judged_parcels : (judged s).parcels = s.parcels := rfl
@[simp] theorem judged_ee : (judged s).ee = s.ee := rfl
@[simp] theorem judged_round : (judged s).round = s.round := rfl
@[simp] theorem judged_peers : (judged s).peers = s.peers := rfl
@[simp] theorem judged_ct : (judged s).ct = s.ct := rfl
@[simp] theorem judged_fresh : (judged s).fresh = s.fresh := rfl
@[simp] theorem judged_aq : (judged s).aq = s.aq := rfl
@[simp] theorem judged_qq : (judged s).qq = s.qq := rfl
@[simp] theorem judged_alertN : (judged s).alertN = s.alertN := rfl
@[simp] theorem judged_freeIndex : (judged s).freeIndex = s.freeIndex := rfl
@[simp] theorem judged_pending : (judged s).pending = s.pending := rfl

/-! ### heard -/

@[simp] theorem heard_sr (a : Station) : (heard a s).sr = s.sr := rfl
@[simp] theorem heard_bi (a : Station) : (heard a s).bi = s.bi := rfl
@[simp] theorem heard_slots (a : Station) : (heard a s).slots = s.slots := rfl
@[simp] theorem heard_told (a : Station) : (heard a s).told = s.told := rfl
@[simp] theorem heard_tanks (a : Station) : (heard a s).tanks = s.tanks := rfl
@[simp] theorem heard_meters (a : Station) : (heard a s).meters = s.meters := rfl
@[simp] theorem heard_valves (a : Station) : (heard a s).valves = s.valves := rfl
@[simp] theorem heard_terms (a : Station) : (heard a s).terms = s.terms := rfl
@[simp] theorem heard_parcels (a : Station) : (heard a s).parcels = s.parcels := rfl
@[simp] theorem heard_ee (a : Station) : (heard a s).ee = s.ee := rfl
@[simp] theorem heard_round (a : Station) : (heard a s).round = s.round := rfl
@[simp] theorem heard_peers (a : Station) : (heard a s).peers = s.peers := rfl
@[simp] theorem heard_ct (a : Station) : (heard a s).ct = s.ct := rfl
@[simp] theorem heard_fresh (a : Station) :
    (heard a s).fresh = setPlace s.fresh a { s.fresh[a] with age := 0 } := rfl
@[simp] theorem heard_aq (a : Station) : (heard a s).aq = s.aq := rfl
@[simp] theorem heard_qq (a : Station) : (heard a s).qq = s.qq := rfl
@[simp] theorem heard_alertN (a : Station) : (heard a s).alertN = s.alertN := rfl
@[simp] theorem heard_freeIndex (a : Station) : (heard a s).freeIndex = s.freeIndex := rfl
@[simp] theorem heard_pending (a : Station) : (heard a s).pending = s.pending := rfl

/-! ### emptySlot -/

@[simp] theorem emptySlot_sr (i : Fin 4) : (emptySlot i s).sr = s.sr := rfl
@[simp] theorem emptySlot_bi (i : Fin 4) : (emptySlot i s).bi = s.bi := rfl
@[simp] theorem emptySlot_slots (i : Fin 4) : (emptySlot i s).slots = setPlace s.slots i .empty := rfl
@[simp] theorem emptySlot_told (i : Fin 4) : (emptySlot i s).told = s.told := rfl
@[simp] theorem emptySlot_tanks (i : Fin 4) : (emptySlot i s).tanks = s.tanks := rfl
@[simp] theorem emptySlot_meters (i : Fin 4) : (emptySlot i s).meters = s.meters := rfl
@[simp] theorem emptySlot_valves (i : Fin 4) : (emptySlot i s).valves = s.valves := rfl
@[simp] theorem emptySlot_terms (i : Fin 4) : (emptySlot i s).terms = s.terms := rfl
@[simp] theorem emptySlot_parcels (i : Fin 4) : (emptySlot i s).parcels = s.parcels := rfl
@[simp] theorem emptySlot_ee (i : Fin 4) : (emptySlot i s).ee = s.ee := rfl
@[simp] theorem emptySlot_round (i : Fin 4) : (emptySlot i s).round = s.round := rfl
@[simp] theorem emptySlot_peers (i : Fin 4) : (emptySlot i s).peers = s.peers := rfl
@[simp] theorem emptySlot_ct (i : Fin 4) : (emptySlot i s).ct = s.ct := rfl
@[simp] theorem emptySlot_fresh (i : Fin 4) : (emptySlot i s).fresh = s.fresh := rfl
@[simp] theorem emptySlot_aq (i : Fin 4) : (emptySlot i s).aq = s.aq := rfl
@[simp] theorem emptySlot_qq (i : Fin 4) : (emptySlot i s).qq = s.qq := rfl
@[simp] theorem emptySlot_alertN (i : Fin 4) : (emptySlot i s).alertN = s.alertN := rfl
@[simp] theorem emptySlot_freeIndex (i : Fin 4) : (emptySlot i s).freeIndex = s.freeIndex := rfl
@[simp] theorem emptySlot_pending (i : Fin 4) : (emptySlot i s).pending = s.pending := rfl

/-! ### driveAlertN -/

@[simp] theorem driveAlertN_sr : (driveAlertN s).sr = s.sr := rfl
@[simp] theorem driveAlertN_bi : (driveAlertN s).bi = s.bi := rfl
@[simp] theorem driveAlertN_slots : (driveAlertN s).slots = s.slots := rfl
@[simp] theorem driveAlertN_told : (driveAlertN s).told = s.told := rfl
@[simp] theorem driveAlertN_tanks : (driveAlertN s).tanks = s.tanks := rfl
@[simp] theorem driveAlertN_meters : (driveAlertN s).meters = s.meters := rfl
@[simp] theorem driveAlertN_valves : (driveAlertN s).valves = s.valves := rfl
@[simp] theorem driveAlertN_terms : (driveAlertN s).terms = s.terms := rfl
@[simp] theorem driveAlertN_parcels : (driveAlertN s).parcels = s.parcels := rfl
@[simp] theorem driveAlertN_ee : (driveAlertN s).ee = s.ee := rfl
@[simp] theorem driveAlertN_round : (driveAlertN s).round = s.round := rfl
@[simp] theorem driveAlertN_peers : (driveAlertN s).peers = s.peers := rfl
@[simp] theorem driveAlertN_ct : (driveAlertN s).ct = s.ct := rfl
@[simp] theorem driveAlertN_fresh : (driveAlertN s).fresh = s.fresh := rfl
@[simp] theorem driveAlertN_aq : (driveAlertN s).aq = s.aq := rfl
@[simp] theorem driveAlertN_qq : (driveAlertN s).qq = s.qq := rfl
@[simp] theorem driveAlertN_alertN : (driveAlertN s).alertN = alertCondition s := rfl
@[simp] theorem driveAlertN_freeIndex : (driveAlertN s).freeIndex = s.freeIndex := rfl
@[simp] theorem driveAlertN_pending : (driveAlertN s).pending = s.pending := rfl

/-! ### goMute -/

@[simp] theorem goMute_sr : (goMute s).sr = s.sr := rfl
@[simp] theorem goMute_bi : (goMute s).bi = { s.bi with mute := true, tx := .idle, driven := none } := rfl
@[simp] theorem goMute_slots : (goMute s).slots = s.slots := rfl
@[simp] theorem goMute_told : (goMute s).told = s.told := rfl
@[simp] theorem goMute_tanks : (goMute s).tanks = s.tanks := rfl
@[simp] theorem goMute_meters : (goMute s).meters = s.meters := rfl
@[simp] theorem goMute_valves : (goMute s).valves = s.valves := rfl
@[simp] theorem goMute_terms : (goMute s).terms = s.terms := rfl
@[simp] theorem goMute_parcels : (goMute s).parcels = s.parcels := rfl
@[simp] theorem goMute_ee : (goMute s).ee = s.ee := rfl
@[simp] theorem goMute_round : (goMute s).round = s.round := rfl
@[simp] theorem goMute_peers : (goMute s).peers = s.peers := rfl
@[simp] theorem goMute_ct : (goMute s).ct = s.ct := rfl
@[simp] theorem goMute_fresh : (goMute s).fresh = s.fresh := rfl
@[simp] theorem goMute_aq : (goMute s).aq = s.aq := rfl
@[simp] theorem goMute_qq : (goMute s).qq = s.qq := rfl
@[simp] theorem goMute_freeIndex : (goMute s).freeIndex = s.freeIndex := rfl
@[simp] theorem goMute_pending : (goMute s).pending = s.pending := rfl

/-! ### ageAll -/

@[simp] theorem ageAll_sr : (ageAll s).sr = s.sr := by rw [ageAll]
@[simp] theorem ageAll_bi : (ageAll s).bi = s.bi := by rw [ageAll]
@[simp] theorem ageAll_slots : (ageAll s).slots = s.slots := by rw [ageAll]
@[simp] theorem ageAll_told : (ageAll s).told = s.told := by rw [ageAll]
@[simp] theorem ageAll_tanks : (ageAll s).tanks = s.tanks := by rw [ageAll]
@[simp] theorem ageAll_meters : (ageAll s).meters = s.meters := by rw [ageAll]
@[simp] theorem ageAll_valves : (ageAll s).valves = s.valves := by rw [ageAll]
@[simp] theorem ageAll_terms : (ageAll s).terms = s.terms := by rw [ageAll]
@[simp] theorem ageAll_parcels : (ageAll s).parcels = s.parcels := by rw [ageAll]
@[simp] theorem ageAll_ee : (ageAll s).ee = s.ee := by rw [ageAll]
@[simp] theorem ageAll_round : (ageAll s).round = s.round := by rw [ageAll]
@[simp] theorem ageAll_peers : (ageAll s).peers = s.peers := by rw [ageAll]
@[simp] theorem ageAll_ct : (ageAll s).ct = s.ct := by rw [ageAll]
@[simp] theorem ageAll_aq : (ageAll s).aq = s.aq := by rw [ageAll]
@[simp] theorem ageAll_qq : (ageAll s).qq = s.qq := by rw [ageAll]
@[simp] theorem ageAll_alertN : (ageAll s).alertN = s.alertN := by rw [ageAll]
@[simp] theorem ageAll_freeIndex : (ageAll s).freeIndex = s.freeIndex := by rw [ageAll]
@[simp] theorem ageAll_pending : (ageAll s).pending = s.pending := by rw [ageAll]

/-! ### countEvent -/

@[simp] theorem countEvent_sr (i : TimerNo) : (countEvent i s).sr = s.sr := rfl
@[simp] theorem countEvent_bi (i : TimerNo) : (countEvent i s).bi = s.bi := rfl
@[simp] theorem countEvent_slots (i : TimerNo) : (countEvent i s).slots = s.slots := rfl
@[simp] theorem countEvent_told (i : TimerNo) : (countEvent i s).told = s.told := rfl
@[simp] theorem countEvent_tanks (i : TimerNo) : (countEvent i s).tanks = s.tanks := rfl
@[simp] theorem countEvent_meters (i : TimerNo) : (countEvent i s).meters = s.meters := rfl
@[simp] theorem countEvent_valves (i : TimerNo) : (countEvent i s).valves = s.valves := rfl
@[simp] theorem countEvent_terms (i : TimerNo) : (countEvent i s).terms = s.terms := rfl
@[simp] theorem countEvent_parcels (i : TimerNo) : (countEvent i s).parcels = s.parcels := rfl
@[simp] theorem countEvent_ee (i : TimerNo) : (countEvent i s).ee = s.ee := rfl
@[simp] theorem countEvent_round (i : TimerNo) : (countEvent i s).round = s.round := rfl
@[simp] theorem countEvent_peers (i : TimerNo) : (countEvent i s).peers = s.peers := rfl
@[simp] theorem countEvent_ct (i : TimerNo) :
    (countEvent i s).ct = { s.ct with timers := setPlace s.ct.timers i (s.ct.timers[i].countEvent) } := rfl
@[simp] theorem countEvent_fresh (i : TimerNo) : (countEvent i s).fresh = s.fresh := rfl
@[simp] theorem countEvent_aq (i : TimerNo) : (countEvent i s).aq = s.aq := rfl
@[simp] theorem countEvent_qq (i : TimerNo) : (countEvent i s).qq = s.qq := rfl
@[simp] theorem countEvent_alertN (i : TimerNo) : (countEvent i s).alertN = s.alertN := rfl
@[simp] theorem countEvent_freeIndex (i : TimerNo) : (countEvent i s).freeIndex = s.freeIndex := rfl
@[simp] theorem countEvent_pending (i : TimerNo) : (countEvent i s).pending = s.pending := rfl

/-! ### returnFrame -/

@[simp] theorem returnFrame_sr : (returnFrame s).sr = s.sr := rfl
@[simp] theorem returnFrame_bi : (returnFrame s).bi = s.bi := rfl
@[simp] theorem returnFrame_slots : (returnFrame s).slots = mapPlaces s.slots fun _ x => x.returned := rfl
@[simp] theorem returnFrame_told : (returnFrame s).told = s.told := rfl
@[simp] theorem returnFrame_tanks : (returnFrame s).tanks = s.tanks := rfl
@[simp] theorem returnFrame_meters : (returnFrame s).meters = s.meters := rfl
@[simp] theorem returnFrame_valves : (returnFrame s).valves = s.valves := rfl
@[simp] theorem returnFrame_terms : (returnFrame s).terms = s.terms := rfl
@[simp] theorem returnFrame_parcels : (returnFrame s).parcels = s.parcels := rfl
@[simp] theorem returnFrame_ee : (returnFrame s).ee = s.ee := rfl
@[simp] theorem returnFrame_round : (returnFrame s).round = s.round := rfl
@[simp] theorem returnFrame_peers : (returnFrame s).peers = s.peers := rfl
@[simp] theorem returnFrame_ct : (returnFrame s).ct = s.ct := rfl
@[simp] theorem returnFrame_fresh : (returnFrame s).fresh = s.fresh := rfl
@[simp] theorem returnFrame_aq : (returnFrame s).aq = s.aq := rfl
@[simp] theorem returnFrame_qq : (returnFrame s).qq = s.qq := rfl
@[simp] theorem returnFrame_alertN : (returnFrame s).alertN = s.alertN := rfl
@[simp] theorem returnFrame_freeIndex : (returnFrame s).freeIndex = s.freeIndex := rfl
@[simp] theorem returnFrame_pending : (returnFrame s).pending = s.pending := rfl

/-! ### toStage -/

@[simp] theorem toStage_sr (g : Stage) : (toStage g s).sr = s.sr := rfl
@[simp] theorem toStage_bi (g : Stage) : (toStage g s).bi = s.bi := rfl
@[simp] theorem toStage_slots (g : Stage) : (toStage g s).slots = s.slots := rfl
@[simp] theorem toStage_told (g : Stage) : (toStage g s).told = s.told := rfl
@[simp] theorem toStage_tanks (g : Stage) : (toStage g s).tanks = s.tanks := rfl
@[simp] theorem toStage_meters (g : Stage) : (toStage g s).meters = s.meters := rfl
@[simp] theorem toStage_valves (g : Stage) : (toStage g s).valves = s.valves := rfl
@[simp] theorem toStage_terms (g : Stage) : (toStage g s).terms = s.terms := rfl
@[simp] theorem toStage_parcels (g : Stage) : (toStage g s).parcels = s.parcels := rfl
@[simp] theorem toStage_ee (g : Stage) :
    (toStage g s).ee = { s.ee with pass := .running g, visited := 0 } := rfl
@[simp] theorem toStage_round (g : Stage) : (toStage g s).round = s.round := rfl
@[simp] theorem toStage_peers (g : Stage) : (toStage g s).peers = s.peers := rfl
@[simp] theorem toStage_ct (g : Stage) : (toStage g s).ct = s.ct := rfl
@[simp] theorem toStage_fresh (g : Stage) : (toStage g s).fresh = s.fresh := rfl
@[simp] theorem toStage_aq (g : Stage) : (toStage g s).aq = s.aq := rfl
@[simp] theorem toStage_qq (g : Stage) : (toStage g s).qq = s.qq := rfl
@[simp] theorem toStage_alertN (g : Stage) : (toStage g s).alertN = s.alertN := rfl
@[simp] theorem toStage_freeIndex (g : Stage) : (toStage g s).freeIndex = s.freeIndex := rfl
@[simp] theorem toStage_pending (g : Stage) : (toStage g s).pending = s.pending := rfl

/-! ### discardPass -/

@[simp] theorem discardPass_sr : (discardPass s).sr = s.sr := rfl
@[simp] theorem discardPass_bi : (discardPass s).bi = s.bi := rfl
@[simp] theorem discardPass_slots : (discardPass s).slots = s.slots := rfl
@[simp] theorem discardPass_told : (discardPass s).told = s.told := rfl
@[simp] theorem discardPass_tanks : (discardPass s).tanks = s.tanks := rfl
@[simp] theorem discardPass_meters : (discardPass s).meters = s.meters := rfl
@[simp] theorem discardPass_valves : (discardPass s).valves = s.valves := rfl
@[simp] theorem discardPass_terms : (discardPass s).terms = s.terms := rfl
@[simp] theorem discardPass_parcels : (discardPass s).parcels = s.parcels := rfl
@[simp] theorem discardPass_ee :
    (discardPass s).ee = { s.ee with snapshot := none, evaluated := Vector.replicate 8 none } := rfl
@[simp] theorem discardPass_round : (discardPass s).round = s.round := rfl
@[simp] theorem discardPass_peers : (discardPass s).peers = s.peers := rfl
@[simp] theorem discardPass_ct : (discardPass s).ct = s.ct := rfl
@[simp] theorem discardPass_fresh : (discardPass s).fresh = s.fresh := rfl
@[simp] theorem discardPass_aq : (discardPass s).aq = s.aq := rfl
@[simp] theorem discardPass_qq : (discardPass s).qq = s.qq := rfl
@[simp] theorem discardPass_alertN : (discardPass s).alertN = s.alertN := rfl
@[simp] theorem discardPass_freeIndex : (discardPass s).freeIndex = s.freeIndex := rfl
@[simp] theorem discardPass_pending : (discardPass s).pending = s.pending := rfl

/-! ### keepEvaluated -/

@[simp] theorem keepEvaluated_sr (p : ParcelNo) (f : Figures) : (keepEvaluated p f s).sr = s.sr := rfl
@[simp] theorem keepEvaluated_bi (p : ParcelNo) (f : Figures) : (keepEvaluated p f s).bi = s.bi := rfl
@[simp] theorem keepEvaluated_slots (p : ParcelNo) (f : Figures) :
    (keepEvaluated p f s).slots = s.slots := rfl
@[simp] theorem keepEvaluated_told (p : ParcelNo) (f : Figures) : (keepEvaluated p f s).told = s.told := rfl
@[simp] theorem keepEvaluated_tanks (p : ParcelNo) (f : Figures) :
    (keepEvaluated p f s).tanks = s.tanks := rfl
@[simp] theorem keepEvaluated_meters (p : ParcelNo) (f : Figures) :
    (keepEvaluated p f s).meters = s.meters := rfl
@[simp] theorem keepEvaluated_valves (p : ParcelNo) (f : Figures) :
    (keepEvaluated p f s).valves = s.valves := rfl
@[simp] theorem keepEvaluated_terms (p : ParcelNo) (f : Figures) :
    (keepEvaluated p f s).terms = s.terms := rfl
@[simp] theorem keepEvaluated_parcels (p : ParcelNo) (f : Figures) :
    (keepEvaluated p f s).parcels = s.parcels := rfl
@[simp] theorem keepEvaluated_ee (p : ParcelNo) (f : Figures) :
    (keepEvaluated p f s).ee = { s.ee with evaluated := setPlace s.ee.evaluated p (some f) } := rfl
@[simp] theorem keepEvaluated_round (p : ParcelNo) (f : Figures) :
    (keepEvaluated p f s).round = s.round := rfl
@[simp] theorem keepEvaluated_peers (p : ParcelNo) (f : Figures) :
    (keepEvaluated p f s).peers = s.peers := rfl
@[simp] theorem keepEvaluated_ct (p : ParcelNo) (f : Figures) : (keepEvaluated p f s).ct = s.ct := rfl
@[simp] theorem keepEvaluated_fresh (p : ParcelNo) (f : Figures) :
    (keepEvaluated p f s).fresh = s.fresh := rfl
@[simp] theorem keepEvaluated_aq (p : ParcelNo) (f : Figures) : (keepEvaluated p f s).aq = s.aq := rfl
@[simp] theorem keepEvaluated_qq (p : ParcelNo) (f : Figures) : (keepEvaluated p f s).qq = s.qq := rfl
@[simp] theorem keepEvaluated_alertN (p : ParcelNo) (f : Figures) :
    (keepEvaluated p f s).alertN = s.alertN := rfl
@[simp] theorem keepEvaluated_freeIndex (p : ParcelNo) (f : Figures) :
    (keepEvaluated p f s).freeIndex = s.freeIndex := rfl
@[simp] theorem keepEvaluated_pending (p : ParcelNo) (f : Figures) :
    (keepEvaluated p f s).pending = s.pending := rfl

/-! ### beginPass -/

@[simp] theorem beginPass_sr : (beginPass s).sr = s.sr := rfl
@[simp] theorem beginPass_bi : (beginPass s).bi = s.bi := rfl
@[simp] theorem beginPass_slots : (beginPass s).slots = s.slots := rfl
@[simp] theorem beginPass_told : (beginPass s).told = s.told := rfl
@[simp] theorem beginPass_valves : (beginPass s).valves = s.valves := rfl
@[simp] theorem beginPass_ee :
    (beginPass s).ee = { s.ee with pass := .running .handOver, visited := 0 } := rfl
@[simp] theorem beginPass_round : (beginPass s).round = s.round := rfl
@[simp] theorem beginPass_peers : (beginPass s).peers = s.peers := rfl
@[simp] theorem beginPass_ct : (beginPass s).ct = s.ct := rfl
@[simp] theorem beginPass_fresh : (beginPass s).fresh = s.fresh := rfl
@[simp] theorem beginPass_aq : (beginPass s).aq = s.aq := rfl
@[simp] theorem beginPass_qq : (beginPass s).qq = s.qq := rfl
@[simp] theorem beginPass_alertN : (beginPass s).alertN = s.alertN := rfl
@[simp] theorem beginPass_freeIndex : (beginPass s).freeIndex = s.freeIndex := rfl
@[simp] theorem beginPass_pending : (beginPass s).pending = s.pending := rfl

/-! ### alignValves -/

@[simp] theorem alignValves_sr : (alignValves s).sr = s.sr := rfl
@[simp] theorem alignValves_bi : (alignValves s).bi = s.bi := rfl
@[simp] theorem alignValves_slots : (alignValves s).slots = s.slots := rfl
@[simp] theorem alignValves_told : (alignValves s).told = s.told := rfl
@[simp] theorem alignValves_tanks : (alignValves s).tanks = s.tanks := rfl
@[simp] theorem alignValves_meters : (alignValves s).meters = s.meters := rfl
@[simp] theorem alignValves_terms : (alignValves s).terms = s.terms := rfl
@[simp] theorem alignValves_parcels : (alignValves s).parcels = s.parcels := rfl
@[simp] theorem alignValves_ee : (alignValves s).ee = s.ee := rfl
@[simp] theorem alignValves_round : (alignValves s).round = s.round := rfl
@[simp] theorem alignValves_peers : (alignValves s).peers = s.peers := rfl
@[simp] theorem alignValves_ct : (alignValves s).ct = s.ct := rfl
@[simp] theorem alignValves_fresh : (alignValves s).fresh = s.fresh := rfl
@[simp] theorem alignValves_aq : (alignValves s).aq = s.aq := rfl
@[simp] theorem alignValves_qq : (alignValves s).qq = s.qq := rfl
@[simp] theorem alignValves_alertN : (alignValves s).alertN = s.alertN := rfl
@[simp] theorem alignValves_freeIndex : (alignValves s).freeIndex = s.freeIndex := rfl
@[simp] theorem alignValves_pending : (alignValves s).pending = s.pending := rfl

/-! ### reach -/

@[simp] theorem reach_sr (n : Nat) : (reach n s).sr = s.sr := rfl
@[simp] theorem reach_bi (n : Nat) : (reach n s).bi = s.bi := rfl
@[simp] theorem reach_slots (n : Nat) : (reach n s).slots = s.slots := rfl
@[simp] theorem reach_told (n : Nat) : (reach n s).told = s.told := rfl
@[simp] theorem reach_tanks (n : Nat) : (reach n s).tanks = s.tanks := rfl
@[simp] theorem reach_meters (n : Nat) : (reach n s).meters = s.meters := rfl
@[simp] theorem reach_valves (n : Nat) : (reach n s).valves = s.valves := rfl
@[simp] theorem reach_terms (n : Nat) : (reach n s).terms = s.terms := rfl
@[simp] theorem reach_parcels (n : Nat) : (reach n s).parcels = s.parcels := rfl
@[simp] theorem reach_ee (n : Nat) : (reach n s).ee = { s.ee with visited := n } := rfl
@[simp] theorem reach_round (n : Nat) : (reach n s).round = s.round := rfl
@[simp] theorem reach_peers (n : Nat) : (reach n s).peers = s.peers := rfl
@[simp] theorem reach_ct (n : Nat) : (reach n s).ct = s.ct := rfl
@[simp] theorem reach_fresh (n : Nat) : (reach n s).fresh = s.fresh := rfl
@[simp] theorem reach_aq (n : Nat) : (reach n s).aq = s.aq := rfl
@[simp] theorem reach_qq (n : Nat) : (reach n s).qq = s.qq := rfl
@[simp] theorem reach_alertN (n : Nat) : (reach n s).alertN = s.alertN := rfl
@[simp] theorem reach_freeIndex (n : Nat) : (reach n s).freeIndex = s.freeIndex := rfl
@[simp] theorem reach_pending (n : Nat) : (reach n s).pending = s.pending := rfl

/-! ### tickAll -/

@[simp] theorem tickAll_sr : (tickAll s).sr = s.sr.tick := rfl
@[simp] theorem tickAll_bi : (tickAll s).bi = s.bi := rfl
@[simp] theorem tickAll_slots : (tickAll s).slots = s.slots := rfl
@[simp] theorem tickAll_told : (tickAll s).told = s.told := rfl
@[simp] theorem tickAll_tanks : (tickAll s).tanks = s.tanks := rfl
@[simp] theorem tickAll_meters : (tickAll s).meters = s.meters := rfl
@[simp] theorem tickAll_valves : (tickAll s).valves = s.valves := rfl
@[simp] theorem tickAll_terms : (tickAll s).terms = s.terms := rfl
@[simp] theorem tickAll_parcels : (tickAll s).parcels = s.parcels := rfl
@[simp] theorem tickAll_ee : (tickAll s).ee = s.ee := rfl
@[simp] theorem tickAll_round : (tickAll s).round = s.round := rfl
@[simp] theorem tickAll_peers : (tickAll s).peers = s.peers := rfl
@[simp] theorem tickAll_ct :
    (tickAll s).ct = { s.ct with timers := mapPlaces s.ct.timers fun _ t => t.tick } := rfl
@[simp] theorem tickAll_fresh : (tickAll s).fresh = s.fresh := rfl
@[simp] theorem tickAll_aq : (tickAll s).aq = s.aq := rfl
@[simp] theorem tickAll_qq : (tickAll s).qq = s.qq := rfl
@[simp] theorem tickAll_alertN : (tickAll s).alertN = s.alertN := rfl
@[simp] theorem tickAll_freeIndex : (tickAll s).freeIndex = s.freeIndex := rfl
@[simp] theorem tickAll_pending : (tickAll s).pending = s.pending := rfl

/-! ### putWork -/

@[simp] theorem putWork_sr (r : MeterRec) (w : MeterWork) : (putWork r w s).sr = s.sr := rfl
@[simp] theorem putWork_bi (r : MeterRec) (w : MeterWork) : (putWork r w s).bi = s.bi := rfl
@[simp] theorem putWork_slots (r : MeterRec) (w : MeterWork) : (putWork r w s).slots = s.slots := rfl
@[simp] theorem putWork_told (r : MeterRec) (w : MeterWork) : (putWork r w s).told = s.told := rfl
@[simp] theorem putWork_tanks (r : MeterRec) (w : MeterWork) : (putWork r w s).tanks = s.tanks := rfl
@[simp] theorem putWork_meters (r : MeterRec) (w : MeterWork) :
    (putWork r w s).meters = putRec meterOrd { r with work := some w } s.meters := rfl
@[simp] theorem putWork_valves (r : MeterRec) (w : MeterWork) : (putWork r w s).valves = s.valves := rfl
@[simp] theorem putWork_terms (r : MeterRec) (w : MeterWork) : (putWork r w s).terms = s.terms := rfl
@[simp] theorem putWork_parcels (r : MeterRec) (w : MeterWork) : (putWork r w s).parcels = s.parcels := rfl
@[simp] theorem putWork_ee (r : MeterRec) (w : MeterWork) : (putWork r w s).ee = s.ee := rfl
@[simp] theorem putWork_round (r : MeterRec) (w : MeterWork) : (putWork r w s).round = s.round := rfl
@[simp] theorem putWork_peers (r : MeterRec) (w : MeterWork) : (putWork r w s).peers = s.peers := rfl
@[simp] theorem putWork_ct (r : MeterRec) (w : MeterWork) : (putWork r w s).ct = s.ct := rfl
@[simp] theorem putWork_fresh (r : MeterRec) (w : MeterWork) : (putWork r w s).fresh = s.fresh := rfl
@[simp] theorem putWork_aq (r : MeterRec) (w : MeterWork) : (putWork r w s).aq = s.aq := rfl
@[simp] theorem putWork_qq (r : MeterRec) (w : MeterWork) : (putWork r w s).qq = s.qq := rfl
@[simp] theorem putWork_alertN (r : MeterRec) (w : MeterWork) : (putWork r w s).alertN = s.alertN := rfl
@[simp] theorem putWork_freeIndex (r : MeterRec) (w : MeterWork) :
    (putWork r w s).freeIndex = s.freeIndex := rfl
@[simp] theorem putWork_pending (r : MeterRec) (w : MeterWork) : (putWork r w s).pending = s.pending := rfl

/-! ### holdDeferred -/

@[simp] theorem holdDeferred_sr (terms : List Term) : (holdDeferred terms s).sr = s.sr := rfl
@[simp] theorem holdDeferred_bi (terms : List Term) : (holdDeferred terms s).bi = s.bi := rfl
@[simp] theorem holdDeferred_slots (terms : List Term) : (holdDeferred terms s).slots = s.slots := rfl
@[simp] theorem holdDeferred_told (terms : List Term) : (holdDeferred terms s).told = s.told := rfl
@[simp] theorem holdDeferred_tanks (terms : List Term) : (holdDeferred terms s).tanks = s.tanks := rfl
@[simp] theorem holdDeferred_meters (terms : List Term) : (holdDeferred terms s).meters = s.meters := rfl
@[simp] theorem holdDeferred_valves (terms : List Term) : (holdDeferred terms s).valves = s.valves := rfl
@[simp] theorem holdDeferred_terms (terms : List Term) : (holdDeferred terms s).terms = s.terms := rfl
@[simp] theorem holdDeferred_ee (terms : List Term) : (holdDeferred terms s).ee = s.ee := rfl
@[simp] theorem holdDeferred_round (terms : List Term) : (holdDeferred terms s).round = s.round := rfl
@[simp] theorem holdDeferred_peers (terms : List Term) : (holdDeferred terms s).peers = s.peers := rfl
@[simp] theorem holdDeferred_ct (terms : List Term) : (holdDeferred terms s).ct = s.ct := rfl
@[simp] theorem holdDeferred_fresh (terms : List Term) : (holdDeferred terms s).fresh = s.fresh := rfl
@[simp] theorem holdDeferred_aq (terms : List Term) : (holdDeferred terms s).aq = s.aq := rfl
@[simp] theorem holdDeferred_qq (terms : List Term) : (holdDeferred terms s).qq = s.qq := rfl
@[simp] theorem holdDeferred_alertN (terms : List Term) : (holdDeferred terms s).alertN = s.alertN := rfl
@[simp] theorem holdDeferred_freeIndex (terms : List Term) :
    (holdDeferred terms s).freeIndex = s.freeIndex := rfl
@[simp] theorem holdDeferred_pending (terms : List Term) : (holdDeferred terms s).pending = s.pending := rfl

/-! ### mapAssigned -/

@[simp] theorem mapAssigned_sr (p : ParcelNo) (f : TankWork → TankWork) :
    (mapAssigned p f s).sr = s.sr := rfl
@[simp] theorem mapAssigned_bi (p : ParcelNo) (f : TankWork → TankWork) :
    (mapAssigned p f s).bi = s.bi := rfl
@[simp] theorem mapAssigned_slots (p : ParcelNo) (f : TankWork → TankWork) :
    (mapAssigned p f s).slots = s.slots := rfl
@[simp] theorem mapAssigned_told (p : ParcelNo) (f : TankWork → TankWork) :
    (mapAssigned p f s).told = s.told := rfl
@[simp] theorem mapAssigned_meters (p : ParcelNo) (f : TankWork → TankWork) :
    (mapAssigned p f s).meters = s.meters := rfl
@[simp] theorem mapAssigned_valves (p : ParcelNo) (f : TankWork → TankWork) :
    (mapAssigned p f s).valves = s.valves := rfl
@[simp] theorem mapAssigned_terms (p : ParcelNo) (f : TankWork → TankWork) :
    (mapAssigned p f s).terms = s.terms := rfl
@[simp] theorem mapAssigned_parcels (p : ParcelNo) (f : TankWork → TankWork) :
    (mapAssigned p f s).parcels = s.parcels := rfl
@[simp] theorem mapAssigned_ee (p : ParcelNo) (f : TankWork → TankWork) :
    (mapAssigned p f s).ee = s.ee := rfl
@[simp] theorem mapAssigned_round (p : ParcelNo) (f : TankWork → TankWork) :
    (mapAssigned p f s).round = s.round := rfl
@[simp] theorem mapAssigned_peers (p : ParcelNo) (f : TankWork → TankWork) :
    (mapAssigned p f s).peers = s.peers := rfl
@[simp] theorem mapAssigned_ct (p : ParcelNo) (f : TankWork → TankWork) :
    (mapAssigned p f s).ct = s.ct := rfl
@[simp] theorem mapAssigned_fresh (p : ParcelNo) (f : TankWork → TankWork) :
    (mapAssigned p f s).fresh = s.fresh := rfl
@[simp] theorem mapAssigned_aq (p : ParcelNo) (f : TankWork → TankWork) :
    (mapAssigned p f s).aq = s.aq := rfl
@[simp] theorem mapAssigned_qq (p : ParcelNo) (f : TankWork → TankWork) :
    (mapAssigned p f s).qq = s.qq := rfl
@[simp] theorem mapAssigned_alertN (p : ParcelNo) (f : TankWork → TankWork) :
    (mapAssigned p f s).alertN = s.alertN := rfl
@[simp] theorem mapAssigned_freeIndex (p : ParcelNo) (f : TankWork → TankWork) :
    (mapAssigned p f s).freeIndex = s.freeIndex := rfl
@[simp] theorem mapAssigned_pending (p : ParcelNo) (f : TankWork → TankWork) :
    (mapAssigned p f s).pending = s.pending := rfl

/-! ### publishAll -/

@[simp] theorem publishAll_sr : (publishAll s).sr = s.sr := rfl
@[simp] theorem publishAll_bi : (publishAll s).bi = s.bi := rfl
@[simp] theorem publishAll_slots : (publishAll s).slots = s.slots := rfl
@[simp] theorem publishAll_told : (publishAll s).told = s.told := rfl
@[simp] theorem publishAll_tanks : (publishAll s).tanks = s.tanks := rfl
@[simp] theorem publishAll_meters : (publishAll s).meters = s.meters := rfl
@[simp] theorem publishAll_valves : (publishAll s).valves = s.valves := rfl
@[simp] theorem publishAll_terms : (publishAll s).terms = s.terms := rfl
@[simp] theorem publishAll_parcels :
    (publishAll s).parcels = mapPlaces s.parcels fun p r => { r with published := r.publishing s.ee.evaluated[p] } := rfl
@[simp] theorem publishAll_ee : (publishAll s).ee = s.ee := rfl
@[simp] theorem publishAll_round : (publishAll s).round = s.round := rfl
@[simp] theorem publishAll_peers : (publishAll s).peers = s.peers := rfl
@[simp] theorem publishAll_ct : (publishAll s).ct = s.ct := rfl
@[simp] theorem publishAll_fresh : (publishAll s).fresh = s.fresh := rfl
@[simp] theorem publishAll_aq : (publishAll s).aq = s.aq := rfl
@[simp] theorem publishAll_qq : (publishAll s).qq = s.qq := rfl
@[simp] theorem publishAll_alertN : (publishAll s).alertN = s.alertN := rfl
@[simp] theorem publishAll_freeIndex : (publishAll s).freeIndex = s.freeIndex := rfl
@[simp] theorem publishAll_pending : (publishAll s).pending = s.pending := rfl

/-! ### holdForEsd -/

@[simp] theorem holdForEsd_sr : (holdForEsd s).sr = s.sr := rfl
@[simp] theorem holdForEsd_bi : (holdForEsd s).bi = s.bi := rfl
@[simp] theorem holdForEsd_slots : (holdForEsd s).slots = s.slots := rfl
@[simp] theorem holdForEsd_told : (holdForEsd s).told = s.told := rfl
@[simp] theorem holdForEsd_tanks : (holdForEsd s).tanks = s.tanks := rfl
@[simp] theorem holdForEsd_meters : (holdForEsd s).meters = s.meters := rfl
@[simp] theorem holdForEsd_valves : (holdForEsd s).valves = s.valves := rfl
@[simp] theorem holdForEsd_terms : (holdForEsd s).terms = s.terms := rfl
@[simp] theorem holdForEsd_parcels :
    (holdForEsd s).parcels = mapPlaces s.parcels fun _ r => r.addHold fun h => { h with esd := true } := rfl
@[simp] theorem holdForEsd_ee : (holdForEsd s).ee = s.ee := rfl
@[simp] theorem holdForEsd_round : (holdForEsd s).round = s.round := rfl
@[simp] theorem holdForEsd_peers : (holdForEsd s).peers = s.peers := rfl
@[simp] theorem holdForEsd_ct : (holdForEsd s).ct = s.ct := rfl
@[simp] theorem holdForEsd_fresh : (holdForEsd s).fresh = s.fresh := rfl
@[simp] theorem holdForEsd_aq : (holdForEsd s).aq = s.aq := rfl
@[simp] theorem holdForEsd_qq : (holdForEsd s).qq = s.qq := rfl
@[simp] theorem holdForEsd_alertN : (holdForEsd s).alertN = s.alertN := rfl
@[simp] theorem holdForEsd_freeIndex : (holdForEsd s).freeIndex = s.freeIndex := rfl
@[simp] theorem holdForEsd_pending : (holdForEsd s).pending = s.pending := rfl

/-! ### heardRole and startT3 -/

@[simp] theorem heardRole_sr (a : Station) (role : Option Role) : (heardRole a role s).sr = s.sr := by
  cases role <;> rfl
@[simp] theorem heardRole_bi (a : Station) (role : Option Role) : (heardRole a role s).bi = s.bi := by
  cases role <;> rfl
@[simp] theorem heardRole_slots (a : Station) (role : Option Role) : (heardRole a role s).slots = s.slots := by
  cases role <;> rfl
@[simp] theorem heardRole_told (a : Station) (role : Option Role) : (heardRole a role s).told = s.told := by
  cases role <;> rfl
@[simp] theorem heardRole_tanks (a : Station) (role : Option Role) : (heardRole a role s).tanks = s.tanks := by
  cases role <;> rfl
@[simp] theorem heardRole_meters (a : Station) (role : Option Role) : (heardRole a role s).meters = s.meters := by
  cases role <;> rfl
@[simp] theorem heardRole_valves (a : Station) (role : Option Role) : (heardRole a role s).valves = s.valves := by
  cases role <;> rfl
@[simp] theorem heardRole_terms (a : Station) (role : Option Role) : (heardRole a role s).terms = s.terms := by
  cases role <;> rfl
@[simp] theorem heardRole_parcels (a : Station) (role : Option Role) : (heardRole a role s).parcels = s.parcels := by
  cases role <;> rfl
@[simp] theorem heardRole_ee (a : Station) (role : Option Role) : (heardRole a role s).ee = s.ee := by
  cases role <;> rfl
@[simp] theorem heardRole_round (a : Station) (role : Option Role) : (heardRole a role s).round = s.round := by
  cases role <;> rfl
@[simp] theorem heardRole_peers (a : Station) (role : Option Role) : (heardRole a role s).peers = s.peers := by
  cases role <;> rfl
@[simp] theorem heardRole_ct (a : Station) (role : Option Role) : (heardRole a role s).ct = s.ct := by
  cases role <;> rfl
@[simp] theorem heardRole_aq (a : Station) (role : Option Role) : (heardRole a role s).aq = s.aq := by
  cases role <;> rfl
@[simp] theorem heardRole_qq (a : Station) (role : Option Role) : (heardRole a role s).qq = s.qq := by
  cases role <;> rfl
@[simp] theorem heardRole_alertN (a : Station) (role : Option Role) : (heardRole a role s).alertN = s.alertN := by
  cases role <;> rfl
@[simp] theorem heardRole_freeIndex (a : Station) (role : Option Role) : (heardRole a role s).freeIndex = s.freeIndex := by
  cases role <;> rfl
@[simp] theorem heardRole_pending (a : Station) (role : Option Role) : (heardRole a role s).pending = s.pending := by
  cases role <;> rfl
@[simp] theorem startT3_sr : (startT3 s).sr = s.sr := by
  unfold startT3; split <;> rfl
@[simp] theorem startT3_bi : (startT3 s).bi = s.bi := by
  unfold startT3; split <;> rfl
@[simp] theorem startT3_slots : (startT3 s).slots = s.slots := by
  unfold startT3; split <;> rfl
@[simp] theorem startT3_told : (startT3 s).told = s.told := by
  unfold startT3; split <;> rfl
@[simp] theorem startT3_tanks : (startT3 s).tanks = s.tanks := by
  unfold startT3; split <;> rfl
@[simp] theorem startT3_meters : (startT3 s).meters = s.meters := by
  unfold startT3; split <;> rfl
@[simp] theorem startT3_valves : (startT3 s).valves = s.valves := by
  unfold startT3; split <;> rfl
@[simp] theorem startT3_terms : (startT3 s).terms = s.terms := by
  unfold startT3; split <;> rfl
@[simp] theorem startT3_parcels : (startT3 s).parcels = s.parcels := by
  unfold startT3; split <;> rfl
@[simp] theorem startT3_ee : (startT3 s).ee = s.ee := by
  unfold startT3; split <;> rfl
@[simp] theorem startT3_round : (startT3 s).round = s.round := by
  unfold startT3; split <;> rfl
@[simp] theorem startT3_peers : (startT3 s).peers = s.peers := by
  unfold startT3; split <;> rfl
@[simp] theorem startT3_fresh : (startT3 s).fresh = s.fresh := by
  unfold startT3; split <;> rfl
@[simp] theorem startT3_aq : (startT3 s).aq = s.aq := by
  unfold startT3; split <;> rfl
@[simp] theorem startT3_qq : (startT3 s).qq = s.qq := by
  unfold startT3; split <;> rfl
@[simp] theorem startT3_alertN : (startT3 s).alertN = s.alertN := by
  unfold startT3; split <;> rfl
@[simp] theorem startT3_freeIndex : (startT3 s).freeIndex = s.freeIndex := by
  unfold startT3; split <;> rfl
@[simp] theorem startT3_pending : (startT3 s).pending = s.pending := by
  unfold startT3; split <;> rfl

end Sys2Proof.Laws
end

