-- ==== Sys2Proof/Laws/Ops.lean ====
section
/-! SUPPORT. The shared operations that branch: what each can do, said once, and the fields it leaves as they
were. -/

namespace Sys2Proof.Laws

open Machine

variable (s : State)

set_option linter.unnecessarySeqFocus false
set_option linter.unusedSimpArgs false

/-! ### The arbiter's offer -/

/-- Everything an offer can do (R182): nothing, or the lowest pending frame goes in flight. -/
theorem offer_cases :
    (offer s = s ∧ (mayOffer s = false ∨ lowestPending s.slots = none)) ∨
      ∃ i, mayOffer s = true ∧ lowestPending s.slots = some i ∧
        offer s =
          { s with
            slots := setPlace s.slots i s.slots[i].offered
            bi :=
              { s.bi with
                tx := .arbitrating
                busIdle := false
                receiving := true
                driven := frameOfSlot s.sr.address i s.slots[i] } } := by
  unfold offer
  cases hm : mayOffer s
  · simp
  · cases hl : lowestPending s.slots with
    | none => simp
    | some i => simp

/-- On a bus that is not idle no offer is made. -/
theorem offer_busy (h : s.bi.busIdle = false) : offer s = s := by
  simp [offer, mayOffer, h]

/-- While MUTE no offer is made. -/
theorem offer_mute (h : s.bi.mute = true) : offer s = s := by
  simp [offer, mayOffer, h]

/-- The slot an offer takes holds a pending frame, and no lower slot does. -/
theorem lowestPending_spec {v : Vector Slot 4} {i : Fin 4} (h : lowestPending v = some i) :
    v[i].isPending = true ∧ ∀ j : Fin 4, j < i → v[j].isPending = false := by
  unfold lowestPending allSlots at h
  simp only [List.find?_cons, List.find?_nil] at h
  cases h0 : v[(0 : Fin 4)].isPending
  · cases h1 : v[(1 : Fin 4)].isPending
    · cases h2 : v[(2 : Fin 4)].isPending
      · cases h3 : v[(3 : Fin 4)].isPending
        · simp only [h0, h1, h2, h3] at h
          cases h
        · simp only [h0, h1, h2, h3, Option.some.injEq] at h
          subst h
          refine ⟨h3, fun j hj => ?_⟩
          match j, hj with
          | 0, _ => exact h0
          | 1, _ => exact h1
          | 2, _ => exact h2
      · simp only [h0, h1, h2, Option.some.injEq] at h
        subst h
        refine ⟨h2, fun j hj => ?_⟩
        match j, hj with
        | 0, _ => exact h0
        | 1, _ => exact h1
    · simp only [h0, h1, Option.some.injEq] at h
      subst h
      refine ⟨h1, fun j hj => ?_⟩
      match j, hj with
      | 0, _ => exact h0
  · simp only [h0, Option.some.injEq] at h
    subst h
    exact ⟨h0, fun j hj => absurd hj (by simp)⟩

/-- No slot is found exactly when none holds a pending frame. -/
theorem lowestPending_none {v : Vector Slot 4} :
    lowestPending v = none ↔ ∀ j : Fin 4, v[j].isPending = false := by
  unfold lowestPending allSlots
  rw [List.find?_eq_none]
  constructor
  · intro h j
    have := h j (by fin_cases j <;> simp)
    simpa using this
  · intro h x _
    simp only [Bool.not_eq_true]
    exact h x

/-- Everything a load can do (R181): it is not taken, or the frame is placed pending and an offer is
judged. -/
theorem loadSlot_cases (i : Fin 4) (f : TxFrame) :
    (takesLoad i s.slots[i] = false ∧ loadSlot i f s = s) ∨
      (takesLoad i s.slots[i] = true ∧
        loadSlot i f s = offer { s with slots := setPlace s.slots i (.pending f) }) := by
  unfold loadSlot
  cases h : takesLoad i s.slots[i] <;> simp

/-- Everything an alert can do (R188): the queue's head, a later record, a free place, or none. -/
theorem queueAlert_cases (cause : Cause) (subject : Subject) (value : Int) (r : AlertRec)
    (hr : r = ⟨cause, subject, value, s.sr.clock⟩) :
    (s.aq.records = [] ∧
        queueAlert cause subject value s
          = loadSlot 0 (alertFrame r) { s with aq := { s.aq with records := [r] } }) ∨
      ∃ head rest, s.aq.records = head :: rest ∧
        ((sameAlert head r = true ∧ queueAlert cause subject value s = { s with aq := ⟨r :: rest, true⟩ }) ∨
          (sameAlert head r = false ∧ (rest.any fun x => sameAlert x r) = true ∧
            queueAlert cause subject value s
              = { s with aq := { s.aq with records := head :: replaceAlert r rest } }) ∨
          (sameAlert head r = false ∧ (rest.any fun x => sameAlert x r) = false ∧
            (head :: rest).length < maxAlerts ∧
            queueAlert cause subject value s
              = { s with aq := { s.aq with records := head :: rest ++ [r] } }) ∨
          (sameAlert head r = false ∧ (rest.any fun x => sameAlert x r) = false ∧
            maxAlerts ≤ (head :: rest).length ∧
            queueAlert cause subject value s = { s with aq := { s.aq with withheld := true } })) := by
  subst hr
  unfold queueAlert
  cases hq : s.aq.records with
  | nil => exact .inl ⟨rfl, rfl⟩
  | cons head rest =>
    refine .inr ⟨head, rest, rfl, ?_⟩
    simp only
    cases h1 : sameAlert head ⟨cause, subject, value, s.sr.clock⟩
    · cases h2 : rest.any fun x => sameAlert x ⟨cause, subject, value, s.sr.clock⟩
      · by_cases h3 : (head :: rest).length < maxAlerts
        · exact .inr (.inr (.inl ⟨rfl, rfl, h3, by rw [if_neg (by simp), if_neg (by simp), if_pos h3]⟩))
        · exact .inr (.inr (.inr ⟨rfl, rfl, Nat.le_of_not_lt h3,
            by rw [if_neg (by simp), if_neg (by simp), if_neg h3]⟩))
      · exact .inr (.inl ⟨rfl, rfl, by rw [if_neg (by simp), if_pos rfl]⟩)
    · exact .inl ⟨rfl, by rw [if_pos rfl]⟩


/-! ### Fields offer leaves as they were -/

@[simp] theorem offer_sr : (offer s).sr = s.sr := by
  unfold offer; split <;> [split; skip] <;> rfl
@[simp] theorem offer_told : (offer s).told = s.told := by
  unfold offer; split <;> [split; skip] <;> rfl
@[simp] theorem offer_tanks : (offer s).tanks = s.tanks := by
  unfold offer; split <;> [split; skip] <;> rfl
@[simp] theorem offer_meters : (offer s).meters = s.meters := by
  unfold offer; split <;> [split; skip] <;> rfl
@[simp] theorem offer_valves : (offer s).valves = s.valves := by
  unfold offer; split <;> [split; skip] <;> rfl
@[simp] theorem offer_terms : (offer s).terms = s.terms := by
  unfold offer; split <;> [split; skip] <;> rfl
@[simp] theorem offer_parcels : (offer s).parcels = s.parcels := by
  unfold offer; split <;> [split; skip] <;> rfl
@[simp] theorem offer_ee : (offer s).ee = s.ee := by
  unfold offer; split <;> [split; skip] <;> rfl
@[simp] theorem offer_round : (offer s).round = s.round := by
  unfold offer; split <;> [split; skip] <;> rfl
@[simp] theorem offer_peers : (offer s).peers = s.peers := by
  unfold offer; split <;> [split; skip] <;> rfl
@[simp] theorem offer_ct : (offer s).ct = s.ct := by
  unfold offer; split <;> [split; skip] <;> rfl
@[simp] theorem offer_fresh : (offer s).fresh = s.fresh := by
  unfold offer; split <;> [split; skip] <;> rfl
@[simp] theorem offer_aq : (offer s).aq = s.aq := by
  unfold offer; split <;> [split; skip] <;> rfl
@[simp] theorem offer_qq : (offer s).qq = s.qq := by
  unfold offer; split <;> [split; skip] <;> rfl
@[simp] theorem offer_alertN : (offer s).alertN = s.alertN := by
  unfold offer; split <;> [split; skip] <;> rfl
@[simp] theorem offer_freeIndex : (offer s).freeIndex = s.freeIndex := by
  unfold offer; split <;> [split; skip] <;> rfl
@[simp] theorem offer_pending : (offer s).pending = s.pending := by
  unfold offer; split <;> [split; skip] <;> rfl

@[simp] theorem offer_mute_flag : (offer s).bi.mute = s.bi.mute := by
  unfold offer; split <;> [split; skip] <;> rfl

/-! ### Fields loadSlot leaves as they were -/

@[simp] theorem loadSlot_sr (i : Fin 4) (f : TxFrame) : (loadSlot i f s).sr = s.sr := by
  unfold loadSlot; split <;> simp
@[simp] theorem loadSlot_told (i : Fin 4) (f : TxFrame) : (loadSlot i f s).told = s.told := by
  unfold loadSlot; split <;> simp
@[simp] theorem loadSlot_tanks (i : Fin 4) (f : TxFrame) : (loadSlot i f s).tanks = s.tanks := by
  unfold loadSlot; split <;> simp
@[simp] theorem loadSlot_meters (i : Fin 4) (f : TxFrame) : (loadSlot i f s).meters = s.meters := by
  unfold loadSlot; split <;> simp
@[simp] theorem loadSlot_valves (i : Fin 4) (f : TxFrame) : (loadSlot i f s).valves = s.valves := by
  unfold loadSlot; split <;> simp
@[simp] theorem loadSlot_terms (i : Fin 4) (f : TxFrame) : (loadSlot i f s).terms = s.terms := by
  unfold loadSlot; split <;> simp
@[simp] theorem loadSlot_parcels (i : Fin 4) (f : TxFrame) : (loadSlot i f s).parcels = s.parcels := by
  unfold loadSlot; split <;> simp
@[simp] theorem loadSlot_ee (i : Fin 4) (f : TxFrame) : (loadSlot i f s).ee = s.ee := by
  unfold loadSlot; split <;> simp
@[simp] theorem loadSlot_round (i : Fin 4) (f : TxFrame) : (loadSlot i f s).round = s.round := by
  unfold loadSlot; split <;> simp
@[simp] theorem loadSlot_peers (i : Fin 4) (f : TxFrame) : (loadSlot i f s).peers = s.peers := by
  unfold loadSlot; split <;> simp
@[simp] theorem loadSlot_ct (i : Fin 4) (f : TxFrame) : (loadSlot i f s).ct = s.ct := by
  unfold loadSlot; split <;> simp
@[simp] theorem loadSlot_fresh (i : Fin 4) (f : TxFrame) : (loadSlot i f s).fresh = s.fresh := by
  unfold loadSlot; split <;> simp
@[simp] theorem loadSlot_aq (i : Fin 4) (f : TxFrame) : (loadSlot i f s).aq = s.aq := by
  unfold loadSlot; split <;> simp
@[simp] theorem loadSlot_qq (i : Fin 4) (f : TxFrame) : (loadSlot i f s).qq = s.qq := by
  unfold loadSlot; split <;> simp
@[simp] theorem loadSlot_alertN (i : Fin 4) (f : TxFrame) : (loadSlot i f s).alertN = s.alertN := by
  unfold loadSlot; split <;> simp
@[simp] theorem loadSlot_freeIndex (i : Fin 4) (f : TxFrame) : (loadSlot i f s).freeIndex = s.freeIndex := by
  unfold loadSlot; split <;> simp
@[simp] theorem loadSlot_pending (i : Fin 4) (f : TxFrame) : (loadSlot i f s).pending = s.pending := by
  unfold loadSlot; split <;> simp

@[simp] theorem loadSlot_mute_flag (i : Fin 4) (f : TxFrame) : (loadSlot i f s).bi.mute = s.bi.mute := by
  unfold loadSlot; split <;> simp

/-! ### Fields queueAlert leaves as they were -/

@[simp] theorem queueAlert_sr (cause : Cause) (subject : Subject) (value : Int) :
    (queueAlert cause subject value s).sr = s.sr := by
  rcases queueAlert_cases s cause subject value _ rfl with
    ⟨_, e⟩ | ⟨_, _, _, ⟨_, e⟩ | ⟨_, _, e⟩ | ⟨_, _, _, e⟩ | ⟨_, _, _, e⟩⟩ <;> rw [e] <;> simp
@[simp] theorem queueAlert_told (cause : Cause) (subject : Subject) (value : Int) :
    (queueAlert cause subject value s).told = s.told := by
  rcases queueAlert_cases s cause subject value _ rfl with
    ⟨_, e⟩ | ⟨_, _, _, ⟨_, e⟩ | ⟨_, _, e⟩ | ⟨_, _, _, e⟩ | ⟨_, _, _, e⟩⟩ <;> rw [e] <;> simp
@[simp] theorem queueAlert_tanks (cause : Cause) (subject : Subject) (value : Int) :
    (queueAlert cause subject value s).tanks = s.tanks := by
  rcases queueAlert_cases s cause subject value _ rfl with
    ⟨_, e⟩ | ⟨_, _, _, ⟨_, e⟩ | ⟨_, _, e⟩ | ⟨_, _, _, e⟩ | ⟨_, _, _, e⟩⟩ <;> rw [e] <;> simp
@[simp] theorem queueAlert_meters (cause : Cause) (subject : Subject) (value : Int) :
    (queueAlert cause subject value s).meters = s.meters := by
  rcases queueAlert_cases s cause subject value _ rfl with
    ⟨_, e⟩ | ⟨_, _, _, ⟨_, e⟩ | ⟨_, _, e⟩ | ⟨_, _, _, e⟩ | ⟨_, _, _, e⟩⟩ <;> rw [e] <;> simp
@[simp] theorem queueAlert_valves (cause : Cause) (subject : Subject) (value : Int) :
    (queueAlert cause subject value s).valves = s.valves := by
  rcases queueAlert_cases s cause subject value _ rfl with
    ⟨_, e⟩ | ⟨_, _, _, ⟨_, e⟩ | ⟨_, _, e⟩ | ⟨_, _, _, e⟩ | ⟨_, _, _, e⟩⟩ <;> rw [e] <;> simp
@[simp] theorem queueAlert_terms (cause : Cause) (subject : Subject) (value : Int) :
    (queueAlert cause subject value s).terms = s.terms := by
  rcases queueAlert_cases s cause subject value _ rfl with
    ⟨_, e⟩ | ⟨_, _, _, ⟨_, e⟩ | ⟨_, _, e⟩ | ⟨_, _, _, e⟩ | ⟨_, _, _, e⟩⟩ <;> rw [e] <;> simp
@[simp] theorem queueAlert_parcels (cause : Cause) (subject : Subject) (value : Int) :
    (queueAlert cause subject value s).parcels = s.parcels := by
  rcases queueAlert_cases s cause subject value _ rfl with
    ⟨_, e⟩ | ⟨_, _, _, ⟨_, e⟩ | ⟨_, _, e⟩ | ⟨_, _, _, e⟩ | ⟨_, _, _, e⟩⟩ <;> rw [e] <;> simp
@[simp] theorem queueAlert_ee (cause : Cause) (subject : Subject) (value : Int) :
    (queueAlert cause subject value s).ee = s.ee := by
  rcases queueAlert_cases s cause subject value _ rfl with
    ⟨_, e⟩ | ⟨_, _, _, ⟨_, e⟩ | ⟨_, _, e⟩ | ⟨_, _, _, e⟩ | ⟨_, _, _, e⟩⟩ <;> rw [e] <;> simp
@[simp] theorem queueAlert_round (cause : Cause) (subject : Subject) (value : Int) :
    (queueAlert cause subject value s).round = s.round := by
  rcases queueAlert_cases s cause subject value _ rfl with
    ⟨_, e⟩ | ⟨_, _, _, ⟨_, e⟩ | ⟨_, _, e⟩ | ⟨_, _, _, e⟩ | ⟨_, _, _, e⟩⟩ <;> rw [e] <;> simp
@[simp] theorem queueAlert_peers (cause : Cause) (subject : Subject) (value : Int) :
    (queueAlert cause subject value s).peers = s.peers := by
  rcases queueAlert_cases s cause subject value _ rfl with
    ⟨_, e⟩ | ⟨_, _, _, ⟨_, e⟩ | ⟨_, _, e⟩ | ⟨_, _, _, e⟩ | ⟨_, _, _, e⟩⟩ <;> rw [e] <;> simp
@[simp] theorem queueAlert_ct (cause : Cause) (subject : Subject) (value : Int) :
    (queueAlert cause subject value s).ct = s.ct := by
  rcases queueAlert_cases s cause subject value _ rfl with
    ⟨_, e⟩ | ⟨_, _, _, ⟨_, e⟩ | ⟨_, _, e⟩ | ⟨_, _, _, e⟩ | ⟨_, _, _, e⟩⟩ <;> rw [e] <;> simp
@[simp] theorem queueAlert_fresh (cause : Cause) (subject : Subject) (value : Int) :
    (queueAlert cause subject value s).fresh = s.fresh := by
  rcases queueAlert_cases s cause subject value _ rfl with
    ⟨_, e⟩ | ⟨_, _, _, ⟨_, e⟩ | ⟨_, _, e⟩ | ⟨_, _, _, e⟩ | ⟨_, _, _, e⟩⟩ <;> rw [e] <;> simp
@[simp] theorem queueAlert_qq (cause : Cause) (subject : Subject) (value : Int) :
    (queueAlert cause subject value s).qq = s.qq := by
  rcases queueAlert_cases s cause subject value _ rfl with
    ⟨_, e⟩ | ⟨_, _, _, ⟨_, e⟩ | ⟨_, _, e⟩ | ⟨_, _, _, e⟩ | ⟨_, _, _, e⟩⟩ <;> rw [e] <;> simp
@[simp] theorem queueAlert_alertN (cause : Cause) (subject : Subject) (value : Int) :
    (queueAlert cause subject value s).alertN = s.alertN := by
  rcases queueAlert_cases s cause subject value _ rfl with
    ⟨_, e⟩ | ⟨_, _, _, ⟨_, e⟩ | ⟨_, _, e⟩ | ⟨_, _, _, e⟩ | ⟨_, _, _, e⟩⟩ <;> rw [e] <;> simp
@[simp] theorem queueAlert_freeIndex (cause : Cause) (subject : Subject) (value : Int) :
    (queueAlert cause subject value s).freeIndex = s.freeIndex := by
  rcases queueAlert_cases s cause subject value _ rfl with
    ⟨_, e⟩ | ⟨_, _, _, ⟨_, e⟩ | ⟨_, _, e⟩ | ⟨_, _, _, e⟩ | ⟨_, _, _, e⟩⟩ <;> rw [e] <;> simp
@[simp] theorem queueAlert_pending (cause : Cause) (subject : Subject) (value : Int) :
    (queueAlert cause subject value s).pending = s.pending := by
  rcases queueAlert_cases s cause subject value _ rfl with
    ⟨_, e⟩ | ⟨_, _, _, ⟨_, e⟩ | ⟨_, _, e⟩ | ⟨_, _, _, e⟩ | ⟨_, _, _, e⟩⟩ <;> rw [e] <;> simp

@[simp] theorem queueAlert_mute_flag (cause : Cause) (subject : Subject) (value : Int) :
    (queueAlert cause subject value s).bi.mute = s.bi.mute := by
  rcases queueAlert_cases s cause subject value _ rfl with
    ⟨_, e⟩ | ⟨_, _, _, ⟨_, e⟩ | ⟨_, _, e⟩ | ⟨_, _, _, e⟩ | ⟨_, _, _, e⟩⟩ <;> rw [e] <;> simp

/-- An alert raised while the bus is not idle leaves the bus interface as it was. -/
theorem queueAlert_bi_busy (cause : Cause) (subject : Subject) (value : Int) (h : s.bi.busIdle = false) :
    (queueAlert cause subject value s).bi = s.bi := by
  rcases queueAlert_cases s cause subject value _ rfl with
    ⟨_, e⟩ | ⟨_, _, _, ⟨_, e⟩ | ⟨_, _, e⟩ | ⟨_, _, _, e⟩ | ⟨_, _, _, e⟩⟩ <;> rw [e]
  unfold loadSlot
  split
  · rw [offer_busy]
    exact h
  · rfl

/-! ### Fields planReject leaves as they were -/

@[simp] theorem planReject_sr (subject : Subject) (rev : Byte) (reason : RejectReason) :
    (planReject subject rev reason s).sr = s.sr := by
  simp [planReject]
@[simp] theorem planReject_told (subject : Subject) (rev : Byte) (reason : RejectReason) :
    (planReject subject rev reason s).told = s.told := by
  simp [planReject]
@[simp] theorem planReject_tanks (subject : Subject) (rev : Byte) (reason : RejectReason) :
    (planReject subject rev reason s).tanks = s.tanks := by
  simp [planReject]
@[simp] theorem planReject_meters (subject : Subject) (rev : Byte) (reason : RejectReason) :
    (planReject subject rev reason s).meters = s.meters := by
  simp [planReject]
@[simp] theorem planReject_valves (subject : Subject) (rev : Byte) (reason : RejectReason) :
    (planReject subject rev reason s).valves = s.valves := by
  simp [planReject]
@[simp] theorem planReject_terms (subject : Subject) (rev : Byte) (reason : RejectReason) :
    (planReject subject rev reason s).terms = s.terms := by
  simp [planReject]
@[simp] theorem planReject_parcels (subject : Subject) (rev : Byte) (reason : RejectReason) :
    (planReject subject rev reason s).parcels = s.parcels := by
  simp [planReject]
@[simp] theorem planReject_ee (subject : Subject) (rev : Byte) (reason : RejectReason) :
    (planReject subject rev reason s).ee = s.ee := by
  simp [planReject]
@[simp] theorem planReject_round (subject : Subject) (rev : Byte) (reason : RejectReason) :
    (planReject subject rev reason s).round = s.round := by
  simp [planReject]
@[simp] theorem planReject_peers (subject : Subject) (rev : Byte) (reason : RejectReason) :
    (planReject subject rev reason s).peers = s.peers := by
  simp [planReject]
@[simp] theorem planReject_ct (subject : Subject) (rev : Byte) (reason : RejectReason) :
    (planReject subject rev reason s).ct = s.ct := by
  simp [planReject]
@[simp] theorem planReject_fresh (subject : Subject) (rev : Byte) (reason : RejectReason) :
    (planReject subject rev reason s).fresh = s.fresh := by
  simp [planReject]
@[simp] theorem planReject_qq (subject : Subject) (rev : Byte) (reason : RejectReason) :
    (planReject subject rev reason s).qq = s.qq := by
  simp [planReject]
@[simp] theorem planReject_alertN (subject : Subject) (rev : Byte) (reason : RejectReason) :
    (planReject subject rev reason s).alertN = s.alertN := by
  simp [planReject]
@[simp] theorem planReject_freeIndex (subject : Subject) (rev : Byte) (reason : RejectReason) :
    (planReject subject rev reason s).freeIndex = s.freeIndex := by
  simp [planReject]
@[simp] theorem planReject_pending (subject : Subject) (rev : Byte) (reason : RejectReason) :
    (planReject subject rev reason s).pending = s.pending := by
  simp [planReject]

/-! ### Fields planClash leaves as they were -/

@[simp] theorem planClash_sr (subject : Subject) (rev : Byte) : (planClash subject rev s).sr = s.sr := by
  simp [planClash]
@[simp] theorem planClash_told (subject : Subject) (rev : Byte) :
    (planClash subject rev s).told = s.told := by
  simp [planClash]
@[simp] theorem planClash_tanks (subject : Subject) (rev : Byte) :
    (planClash subject rev s).tanks = s.tanks := by
  simp [planClash]
@[simp] theorem planClash_meters (subject : Subject) (rev : Byte) :
    (planClash subject rev s).meters = s.meters := by
  simp [planClash]
@[simp] theorem planClash_valves (subject : Subject) (rev : Byte) :
    (planClash subject rev s).valves = s.valves := by
  simp [planClash]
@[simp] theorem planClash_terms (subject : Subject) (rev : Byte) :
    (planClash subject rev s).terms = s.terms := by
  simp [planClash]
@[simp] theorem planClash_parcels (subject : Subject) (rev : Byte) :
    (planClash subject rev s).parcels = s.parcels := by
  simp [planClash]
@[simp] theorem planClash_ee (subject : Subject) (rev : Byte) : (planClash subject rev s).ee = s.ee := by
  simp [planClash]
@[simp] theorem planClash_round (subject : Subject) (rev : Byte) :
    (planClash subject rev s).round = s.round := by
  simp [planClash]
@[simp] theorem planClash_peers (subject : Subject) (rev : Byte) :
    (planClash subject rev s).peers = s.peers := by
  simp [planClash]
@[simp] theorem planClash_ct (subject : Subject) (rev : Byte) : (planClash subject rev s).ct = s.ct := by
  simp [planClash]
@[simp] theorem planClash_fresh (subject : Subject) (rev : Byte) :
    (planClash subject rev s).fresh = s.fresh := by
  simp [planClash]
@[simp] theorem planClash_qq (subject : Subject) (rev : Byte) : (planClash subject rev s).qq = s.qq := by
  simp [planClash]
@[simp] theorem planClash_alertN (subject : Subject) (rev : Byte) :
    (planClash subject rev s).alertN = s.alertN := by
  simp [planClash]
@[simp] theorem planClash_freeIndex (subject : Subject) (rev : Byte) :
    (planClash subject rev s).freeIndex = s.freeIndex := by
  simp [planClash]
@[simp] theorem planClash_pending (subject : Subject) (rev : Byte) :
    (planClash subject rev s).pending = s.pending := by
  simp [planClash]

/-! ### Fields refuseOpen leaves as they were -/

@[simp] theorem refuseOpen_sr (p : ParcelNo) (expected : Byte) (why : OpenReason) :
    (refuseOpen p expected why s).sr = s.sr := by
  simp [refuseOpen]
@[simp] theorem refuseOpen_told (p : ParcelNo) (expected : Byte) (why : OpenReason) :
    (refuseOpen p expected why s).told = s.told := by
  simp [refuseOpen]
@[simp] theorem refuseOpen_tanks (p : ParcelNo) (expected : Byte) (why : OpenReason) :
    (refuseOpen p expected why s).tanks = s.tanks := by
  simp [refuseOpen]
@[simp] theorem refuseOpen_meters (p : ParcelNo) (expected : Byte) (why : OpenReason) :
    (refuseOpen p expected why s).meters = s.meters := by
  simp [refuseOpen]
@[simp] theorem refuseOpen_valves (p : ParcelNo) (expected : Byte) (why : OpenReason) :
    (refuseOpen p expected why s).valves = s.valves := by
  simp [refuseOpen]
@[simp] theorem refuseOpen_terms (p : ParcelNo) (expected : Byte) (why : OpenReason) :
    (refuseOpen p expected why s).terms = s.terms := by
  simp [refuseOpen]
@[simp] theorem refuseOpen_parcels (p : ParcelNo) (expected : Byte) (why : OpenReason) :
    (refuseOpen p expected why s).parcels = s.parcels := by
  simp [refuseOpen]
@[simp] theorem refuseOpen_ee (p : ParcelNo) (expected : Byte) (why : OpenReason) :
    (refuseOpen p expected why s).ee = s.ee := by
  simp [refuseOpen]
@[simp] theorem refuseOpen_round (p : ParcelNo) (expected : Byte) (why : OpenReason) :
    (refuseOpen p expected why s).round = s.round := by
  simp [refuseOpen]
@[simp] theorem refuseOpen_peers (p : ParcelNo) (expected : Byte) (why : OpenReason) :
    (refuseOpen p expected why s).peers = s.peers := by
  simp [refuseOpen]
@[simp] theorem refuseOpen_ct (p : ParcelNo) (expected : Byte) (why : OpenReason) :
    (refuseOpen p expected why s).ct = s.ct := by
  simp [refuseOpen]
@[simp] theorem refuseOpen_fresh (p : ParcelNo) (expected : Byte) (why : OpenReason) :
    (refuseOpen p expected why s).fresh = s.fresh := by
  simp [refuseOpen]
@[simp] theorem refuseOpen_qq (p : ParcelNo) (expected : Byte) (why : OpenReason) :
    (refuseOpen p expected why s).qq = s.qq := by
  simp [refuseOpen]
@[simp] theorem refuseOpen_alertN (p : ParcelNo) (expected : Byte) (why : OpenReason) :
    (refuseOpen p expected why s).alertN = s.alertN := by
  simp [refuseOpen]
@[simp] theorem refuseOpen_freeIndex (p : ParcelNo) (expected : Byte) (why : OpenReason) :
    (refuseOpen p expected why s).freeIndex = s.freeIndex := by
  simp [refuseOpen]
@[simp] theorem refuseOpen_pending (p : ParcelNo) (expected : Byte) (why : OpenReason) :
    (refuseOpen p expected why s).pending = s.pending := by
  simp [refuseOpen]

/-! ### Fields queueAlertTimes leaves as they were -/

@[simp] theorem queueAlertTimes_sr (cause : Cause) (subject : Subject) (value : Int) (n : Nat) :
    (queueAlertTimes cause subject value n s).sr = s.sr := by
  induction n generalizing s with
  | zero => rfl
  | succ n ih => simp [queueAlertTimes, ih]
@[simp] theorem queueAlertTimes_told (cause : Cause) (subject : Subject) (value : Int) (n : Nat) :
    (queueAlertTimes cause subject value n s).told = s.told := by
  induction n generalizing s with
  | zero => rfl
  | succ n ih => simp [queueAlertTimes, ih]
@[simp] theorem queueAlertTimes_tanks (cause : Cause) (subject : Subject) (value : Int) (n : Nat) :
    (queueAlertTimes cause subject value n s).tanks = s.tanks := by
  induction n generalizing s with
  | zero => rfl
  | succ n ih => simp [queueAlertTimes, ih]
@[simp] theorem queueAlertTimes_meters (cause : Cause) (subject : Subject) (value : Int) (n : Nat) :
    (queueAlertTimes cause subject value n s).meters = s.meters := by
  induction n generalizing s with
  | zero => rfl
  | succ n ih => simp [queueAlertTimes, ih]
@[simp] theorem queueAlertTimes_valves (cause : Cause) (subject : Subject) (value : Int) (n : Nat) :
    (queueAlertTimes cause subject value n s).valves = s.valves := by
  induction n generalizing s with
  | zero => rfl
  | succ n ih => simp [queueAlertTimes, ih]
@[simp] theorem queueAlertTimes_terms (cause : Cause) (subject : Subject) (value : Int) (n : Nat) :
    (queueAlertTimes cause subject value n s).terms = s.terms := by
  induction n generalizing s with
  | zero => rfl
  | succ n ih => simp [queueAlertTimes, ih]
@[simp] theorem queueAlertTimes_parcels (cause : Cause) (subject : Subject) (value : Int) (n : Nat) :
    (queueAlertTimes cause subject value n s).parcels = s.parcels := by
  induction n generalizing s with
  | zero => rfl
  | succ n ih => simp [queueAlertTimes, ih]
@[simp] theorem queueAlertTimes_ee (cause : Cause) (subject : Subject) (value : Int) (n : Nat) :
    (queueAlertTimes cause subject value n s).ee = s.ee := by
  induction n generalizing s with
  | zero => rfl
  | succ n ih => simp [queueAlertTimes, ih]
@[simp] theorem queueAlertTimes_round (cause : Cause) (subject : Subject) (value : Int) (n : Nat) :
    (queueAlertTimes cause subject value n s).round = s.round := by
  induction n generalizing s with
  | zero => rfl
  | succ n ih => simp [queueAlertTimes, ih]
@[simp] theorem queueAlertTimes_peers (cause : Cause) (subject : Subject) (value : Int) (n : Nat) :
    (queueAlertTimes cause subject value n s).peers = s.peers := by
  induction n generalizing s with
  | zero => rfl
  | succ n ih => simp [queueAlertTimes, ih]
@[simp] theorem queueAlertTimes_ct (cause : Cause) (subject : Subject) (value : Int) (n : Nat) :
    (queueAlertTimes cause subject value n s).ct = s.ct := by
  induction n generalizing s with
  | zero => rfl
  | succ n ih => simp [queueAlertTimes, ih]
@[simp] theorem queueAlertTimes_fresh (cause : Cause) (subject : Subject) (value : Int) (n : Nat) :
    (queueAlertTimes cause subject value n s).fresh = s.fresh := by
  induction n generalizing s with
  | zero => rfl
  | succ n ih => simp [queueAlertTimes, ih]
@[simp] theorem queueAlertTimes_qq (cause : Cause) (subject : Subject) (value : Int) (n : Nat) :
    (queueAlertTimes cause subject value n s).qq = s.qq := by
  induction n generalizing s with
  | zero => rfl
  | succ n ih => simp [queueAlertTimes, ih]
@[simp] theorem queueAlertTimes_alertN (cause : Cause) (subject : Subject) (value : Int) (n : Nat) :
    (queueAlertTimes cause subject value n s).alertN = s.alertN := by
  induction n generalizing s with
  | zero => rfl
  | succ n ih => simp [queueAlertTimes, ih]
@[simp] theorem queueAlertTimes_freeIndex (cause : Cause) (subject : Subject) (value : Int) (n : Nat) :
    (queueAlertTimes cause subject value n s).freeIndex = s.freeIndex := by
  induction n generalizing s with
  | zero => rfl
  | succ n ih => simp [queueAlertTimes, ih]
@[simp] theorem queueAlertTimes_pending (cause : Cause) (subject : Subject) (value : Int) (n : Nat) :
    (queueAlertTimes cause subject value n s).pending = s.pending := by
  induction n generalizing s with
  | zero => rfl
  | succ n ih => simp [queueAlertTimes, ih]

/-! ### Fields goStale leaves as they were -/

@[simp] theorem goStale_sr (a : Station) : (goStale s a).sr = s.sr := by
  unfold goStale; simp only; split <;> simp
@[simp] theorem goStale_told (a : Station) : (goStale s a).told = s.told := by
  unfold goStale; simp only; split <;> simp
@[simp] theorem goStale_tanks (a : Station) : (goStale s a).tanks = s.tanks := by
  unfold goStale; simp only; split <;> simp
@[simp] theorem goStale_meters (a : Station) : (goStale s a).meters = s.meters := by
  unfold goStale; simp only; split <;> simp
@[simp] theorem goStale_valves (a : Station) : (goStale s a).valves = s.valves := by
  unfold goStale; simp only; split <;> simp
@[simp] theorem goStale_terms (a : Station) : (goStale s a).terms = s.terms := by
  unfold goStale; simp only; split <;> simp
@[simp] theorem goStale_parcels (a : Station) : (goStale s a).parcels = s.parcels := by
  unfold goStale; simp only; split <;> simp
@[simp] theorem goStale_ee (a : Station) : (goStale s a).ee = s.ee := by
  unfold goStale; simp only; split <;> simp
@[simp] theorem goStale_round (a : Station) : (goStale s a).round = s.round := by
  unfold goStale; simp only; split <;> simp
@[simp] theorem goStale_ct (a : Station) : (goStale s a).ct = s.ct := by
  unfold goStale; simp only; split <;> simp
@[simp] theorem goStale_fresh (a : Station) : (goStale s a).fresh = s.fresh := by
  unfold goStale; simp only; split <;> simp
@[simp] theorem goStale_qq (a : Station) : (goStale s a).qq = s.qq := by
  unfold goStale; simp only; split <;> simp
@[simp] theorem goStale_alertN (a : Station) : (goStale s a).alertN = s.alertN := by
  unfold goStale; simp only; split <;> simp
@[simp] theorem goStale_freeIndex (a : Station) : (goStale s a).freeIndex = s.freeIndex := by
  unfold goStale; simp only; split <;> simp
@[simp] theorem goStale_pending (a : Station) : (goStale s a).pending = s.pending := by
  unfold goStale; simp only; split <;> simp

/-! ### Fields freezeHead leaves as they were -/

@[simp] theorem freezeHead_sr : (freezeHead s).sr = s.sr := by
  unfold freezeHead; split <;> simp
@[simp] theorem freezeHead_told : (freezeHead s).told = s.told := by
  unfold freezeHead; split <;> simp
@[simp] theorem freezeHead_tanks : (freezeHead s).tanks = s.tanks := by
  unfold freezeHead; split <;> simp
@[simp] theorem freezeHead_meters : (freezeHead s).meters = s.meters := by
  unfold freezeHead; split <;> simp
@[simp] theorem freezeHead_valves : (freezeHead s).valves = s.valves := by
  unfold freezeHead; split <;> simp
@[simp] theorem freezeHead_terms : (freezeHead s).terms = s.terms := by
  unfold freezeHead; split <;> simp
@[simp] theorem freezeHead_parcels : (freezeHead s).parcels = s.parcels := by
  unfold freezeHead; split <;> simp
@[simp] theorem freezeHead_ee : (freezeHead s).ee = s.ee := by
  unfold freezeHead; split <;> simp
@[simp] theorem freezeHead_round : (freezeHead s).round = s.round := by
  unfold freezeHead; split <;> simp
@[simp] theorem freezeHead_peers : (freezeHead s).peers = s.peers := by
  unfold freezeHead; split <;> simp
@[simp] theorem freezeHead_ct : (freezeHead s).ct = s.ct := by
  unfold freezeHead; split <;> simp
@[simp] theorem freezeHead_fresh : (freezeHead s).fresh = s.fresh := by
  unfold freezeHead; split <;> simp
@[simp] theorem freezeHead_aq : (freezeHead s).aq = s.aq := by
  unfold freezeHead; split <;> simp
@[simp] theorem freezeHead_alertN : (freezeHead s).alertN = s.alertN := by
  unfold freezeHead; split <;> simp
@[simp] theorem freezeHead_freeIndex : (freezeHead s).freeIndex = s.freeIndex := by
  unfold freezeHead; split <;> simp
@[simp] theorem freezeHead_pending : (freezeHead s).pending = s.pending := by
  unfold freezeHead; split <;> simp

/-! ### Fields loadSummary leaves as they were -/

@[simp] theorem loadSummary_sr (p : ParcelNo) (b : Bool) : (loadSummary p b s).sr = s.sr := by
  simp [loadSummary]
@[simp] theorem loadSummary_told (p : ParcelNo) (b : Bool) : (loadSummary p b s).told = s.told := by
  simp [loadSummary]
@[simp] theorem loadSummary_tanks (p : ParcelNo) (b : Bool) : (loadSummary p b s).tanks = s.tanks := by
  simp [loadSummary]
@[simp] theorem loadSummary_meters (p : ParcelNo) (b : Bool) : (loadSummary p b s).meters = s.meters := by
  simp [loadSummary]
@[simp] theorem loadSummary_valves (p : ParcelNo) (b : Bool) : (loadSummary p b s).valves = s.valves := by
  simp [loadSummary]
@[simp] theorem loadSummary_terms (p : ParcelNo) (b : Bool) : (loadSummary p b s).terms = s.terms := by
  simp [loadSummary]
@[simp] theorem loadSummary_parcels (p : ParcelNo) (b : Bool) : (loadSummary p b s).parcels = s.parcels := by
  simp [loadSummary]
@[simp] theorem loadSummary_ee (p : ParcelNo) (b : Bool) : (loadSummary p b s).ee = s.ee := by
  simp [loadSummary]
@[simp] theorem loadSummary_peers (p : ParcelNo) (b : Bool) : (loadSummary p b s).peers = s.peers := by
  simp [loadSummary]
@[simp] theorem loadSummary_ct (p : ParcelNo) (b : Bool) : (loadSummary p b s).ct = s.ct := by
  simp [loadSummary]
@[simp] theorem loadSummary_fresh (p : ParcelNo) (b : Bool) : (loadSummary p b s).fresh = s.fresh := by
  simp [loadSummary]
@[simp] theorem loadSummary_aq (p : ParcelNo) (b : Bool) : (loadSummary p b s).aq = s.aq := by
  simp [loadSummary]
@[simp] theorem loadSummary_qq (p : ParcelNo) (b : Bool) : (loadSummary p b s).qq = s.qq := by
  simp [loadSummary]
@[simp] theorem loadSummary_alertN (p : ParcelNo) (b : Bool) : (loadSummary p b s).alertN = s.alertN := by
  simp [loadSummary]
@[simp] theorem loadSummary_freeIndex (p : ParcelNo) (b : Bool) :
    (loadSummary p b s).freeIndex = s.freeIndex := by
  simp [loadSummary]
@[simp] theorem loadSummary_pending (p : ParcelNo) (b : Bool) : (loadSummary p b s).pending = s.pending := by
  simp [loadSummary]

/-! ### Fields beginRound leaves as they were -/

@[simp] theorem beginRound_sr : (beginRound s).sr = s.sr := by
  unfold beginRound; split <;> simp
@[simp] theorem beginRound_told : (beginRound s).told = s.told := by
  unfold beginRound; split <;> simp
@[simp] theorem beginRound_tanks : (beginRound s).tanks = s.tanks := by
  unfold beginRound; split <;> simp
@[simp] theorem beginRound_meters : (beginRound s).meters = s.meters := by
  unfold beginRound; split <;> simp
@[simp] theorem beginRound_valves : (beginRound s).valves = s.valves := by
  unfold beginRound; split <;> simp
@[simp] theorem beginRound_terms : (beginRound s).terms = s.terms := by
  unfold beginRound; split <;> simp
@[simp] theorem beginRound_parcels : (beginRound s).parcels = s.parcels := by
  unfold beginRound; split <;> simp
@[simp] theorem beginRound_ee : (beginRound s).ee = s.ee := by
  unfold beginRound; split <;> simp
@[simp] theorem beginRound_peers : (beginRound s).peers = s.peers := by
  unfold beginRound; split <;> simp
@[simp] theorem beginRound_ct : (beginRound s).ct = s.ct := by
  unfold beginRound; split <;> simp
@[simp] theorem beginRound_fresh : (beginRound s).fresh = s.fresh := by
  unfold beginRound; split <;> simp
@[simp] theorem beginRound_aq : (beginRound s).aq = s.aq := by
  unfold beginRound; split <;> simp
@[simp] theorem beginRound_qq : (beginRound s).qq = s.qq := by
  unfold beginRound; split <;> simp
@[simp] theorem beginRound_alertN : (beginRound s).alertN = s.alertN := by
  unfold beginRound; split <;> simp
@[simp] theorem beginRound_freeIndex : (beginRound s).freeIndex = s.freeIndex := by
  unfold beginRound; split <;> simp
@[simp] theorem beginRound_pending : (beginRound s).pending = s.pending := by
  unfold beginRound; split <;> simp

/-! ### Fields searchOn leaves as they were -/

@[simp] theorem searchOn_sr : (searchOn s).sr = s.sr := by
  unfold searchOn; split <;> [skip; split] <;> simp
@[simp] theorem searchOn_told : (searchOn s).told = s.told := by
  unfold searchOn; split <;> [skip; split] <;> simp
@[simp] theorem searchOn_tanks : (searchOn s).tanks = s.tanks := by
  unfold searchOn; split <;> [skip; split] <;> simp
@[simp] theorem searchOn_meters : (searchOn s).meters = s.meters := by
  unfold searchOn; split <;> [skip; split] <;> simp
@[simp] theorem searchOn_valves : (searchOn s).valves = s.valves := by
  unfold searchOn; split <;> [skip; split] <;> simp
@[simp] theorem searchOn_terms : (searchOn s).terms = s.terms := by
  unfold searchOn; split <;> [skip; split] <;> simp
@[simp] theorem searchOn_parcels : (searchOn s).parcels = s.parcels := by
  unfold searchOn; split <;> [skip; split] <;> simp
@[simp] theorem searchOn_ee : (searchOn s).ee = s.ee := by
  unfold searchOn; split <;> [skip; split] <;> simp
@[simp] theorem searchOn_peers : (searchOn s).peers = s.peers := by
  unfold searchOn; split <;> [skip; split] <;> simp
@[simp] theorem searchOn_ct : (searchOn s).ct = s.ct := by
  unfold searchOn; split <;> [skip; split] <;> simp
@[simp] theorem searchOn_fresh : (searchOn s).fresh = s.fresh := by
  unfold searchOn; split <;> [skip; split] <;> simp
@[simp] theorem searchOn_aq : (searchOn s).aq = s.aq := by
  unfold searchOn; split <;> [skip; split] <;> simp
@[simp] theorem searchOn_qq : (searchOn s).qq = s.qq := by
  unfold searchOn; split <;> [skip; split] <;> simp
@[simp] theorem searchOn_alertN : (searchOn s).alertN = s.alertN := by
  unfold searchOn; split <;> [skip; split] <;> simp
@[simp] theorem searchOn_freeIndex : (searchOn s).freeIndex = s.freeIndex := by
  unfold searchOn; split <;> [skip; split] <;> simp
@[simp] theorem searchOn_pending : (searchOn s).pending = s.pending := by
  unfold searchOn; split <;> [skip; split] <;> simp

/-! ### Fields requestRound leaves as they were -/

@[simp] theorem requestRound_sr : (requestRound s).sr = s.sr := by
  unfold requestRound; split <;> simp
@[simp] theorem requestRound_told : (requestRound s).told = s.told := by
  unfold requestRound; split <;> simp
@[simp] theorem requestRound_tanks : (requestRound s).tanks = s.tanks := by
  unfold requestRound; split <;> simp
@[simp] theorem requestRound_meters : (requestRound s).meters = s.meters := by
  unfold requestRound; split <;> simp
@[simp] theorem requestRound_valves : (requestRound s).valves = s.valves := by
  unfold requestRound; split <;> simp
@[simp] theorem requestRound_terms : (requestRound s).terms = s.terms := by
  unfold requestRound; split <;> simp
@[simp] theorem requestRound_parcels : (requestRound s).parcels = s.parcels := by
  unfold requestRound; split <;> simp
@[simp] theorem requestRound_ee : (requestRound s).ee = s.ee := by
  unfold requestRound; split <;> simp
@[simp] theorem requestRound_peers : (requestRound s).peers = s.peers := by
  unfold requestRound; split <;> simp
@[simp] theorem requestRound_ct : (requestRound s).ct = s.ct := by
  unfold requestRound; split <;> simp
@[simp] theorem requestRound_fresh : (requestRound s).fresh = s.fresh := by
  unfold requestRound; split <;> simp
@[simp] theorem requestRound_aq : (requestRound s).aq = s.aq := by
  unfold requestRound; split <;> simp
@[simp] theorem requestRound_qq : (requestRound s).qq = s.qq := by
  unfold requestRound; split <;> simp
@[simp] theorem requestRound_alertN : (requestRound s).alertN = s.alertN := by
  unfold requestRound; split <;> simp
@[simp] theorem requestRound_freeIndex : (requestRound s).freeIndex = s.freeIndex := by
  unfold requestRound; split <;> simp
@[simp] theorem requestRound_pending : (requestRound s).pending = s.pending := by
  unfold requestRound; split <;> simp

/-! ### Fields loadAnnounce leaves as they were -/

@[simp] theorem loadAnnounce_sr : (loadAnnounce s).sr = s.sr := by
  unfold loadAnnounce; split <;> simp
@[simp] theorem loadAnnounce_told : (loadAnnounce s).told = s.told := by
  unfold loadAnnounce; split <;> simp
@[simp] theorem loadAnnounce_tanks : (loadAnnounce s).tanks = s.tanks := by
  unfold loadAnnounce; split <;> simp
@[simp] theorem loadAnnounce_meters : (loadAnnounce s).meters = s.meters := by
  unfold loadAnnounce; split <;> simp
@[simp] theorem loadAnnounce_valves : (loadAnnounce s).valves = s.valves := by
  unfold loadAnnounce; split <;> simp
@[simp] theorem loadAnnounce_terms : (loadAnnounce s).terms = s.terms := by
  unfold loadAnnounce; split <;> simp
@[simp] theorem loadAnnounce_parcels : (loadAnnounce s).parcels = s.parcels := by
  unfold loadAnnounce; split <;> simp
@[simp] theorem loadAnnounce_round : (loadAnnounce s).round = s.round := by
  unfold loadAnnounce; split <;> simp
@[simp] theorem loadAnnounce_peers : (loadAnnounce s).peers = s.peers := by
  unfold loadAnnounce; split <;> simp
@[simp] theorem loadAnnounce_ct : (loadAnnounce s).ct = s.ct := by
  unfold loadAnnounce; split <;> simp
@[simp] theorem loadAnnounce_fresh : (loadAnnounce s).fresh = s.fresh := by
  unfold loadAnnounce; split <;> simp
@[simp] theorem loadAnnounce_qq : (loadAnnounce s).qq = s.qq := by
  unfold loadAnnounce; split <;> simp
@[simp] theorem loadAnnounce_alertN : (loadAnnounce s).alertN = s.alertN := by
  unfold loadAnnounce; split <;> simp
@[simp] theorem loadAnnounce_freeIndex : (loadAnnounce s).freeIndex = s.freeIndex := by
  unfold loadAnnounce; split <;> simp
@[simp] theorem loadAnnounce_pending : (loadAnnounce s).pending = s.pending := by
  unfold loadAnnounce; split <;> simp

/-! ### Fields alertSent leaves as they were -/

@[simp] theorem alertSent_sr : (alertSent s).sr = s.sr := by
  unfold alertSent; split <;> simp
@[simp] theorem alertSent_told : (alertSent s).told = s.told := by
  unfold alertSent; split <;> simp
@[simp] theorem alertSent_tanks : (alertSent s).tanks = s.tanks := by
  unfold alertSent; split <;> simp
@[simp] theorem alertSent_meters : (alertSent s).meters = s.meters := by
  unfold alertSent; split <;> simp
@[simp] theorem alertSent_valves : (alertSent s).valves = s.valves := by
  unfold alertSent; split <;> simp
@[simp] theorem alertSent_terms : (alertSent s).terms = s.terms := by
  unfold alertSent; split <;> simp
@[simp] theorem alertSent_parcels : (alertSent s).parcels = s.parcels := by
  unfold alertSent; split <;> simp
@[simp] theorem alertSent_ee : (alertSent s).ee = s.ee := by
  unfold alertSent; split <;> simp
@[simp] theorem alertSent_round : (alertSent s).round = s.round := by
  unfold alertSent; split <;> simp
@[simp] theorem alertSent_peers : (alertSent s).peers = s.peers := by
  unfold alertSent; split <;> simp
@[simp] theorem alertSent_ct : (alertSent s).ct = s.ct := by
  unfold alertSent; split <;> simp
@[simp] theorem alertSent_fresh : (alertSent s).fresh = s.fresh := by
  unfold alertSent; split <;> simp
@[simp] theorem alertSent_qq : (alertSent s).qq = s.qq := by
  unfold alertSent; split <;> simp
@[simp] theorem alertSent_alertN : (alertSent s).alertN = s.alertN := by
  unfold alertSent; split <;> simp
@[simp] theorem alertSent_freeIndex : (alertSent s).freeIndex = s.freeIndex := by
  unfold alertSent; split <;> simp
@[simp] theorem alertSent_pending : (alertSent s).pending = s.pending := by
  unfold alertSent; split <;> simp

/-! ### Fields answerSent leaves as they were -/

@[simp] theorem answerSent_sr : (answerSent s).sr = s.sr := by
  unfold answerSent; split <;> [skip; split] <;> simp
@[simp] theorem answerSent_told : (answerSent s).told = s.told := by
  unfold answerSent; split <;> [skip; split] <;> simp
@[simp] theorem answerSent_tanks : (answerSent s).tanks = s.tanks := by
  unfold answerSent; split <;> [skip; split] <;> simp
@[simp] theorem answerSent_meters : (answerSent s).meters = s.meters := by
  unfold answerSent; split <;> [skip; split] <;> simp
@[simp] theorem answerSent_valves : (answerSent s).valves = s.valves := by
  unfold answerSent; split <;> [skip; split] <;> simp
@[simp] theorem answerSent_terms : (answerSent s).terms = s.terms := by
  unfold answerSent; split <;> [skip; split] <;> simp
@[simp] theorem answerSent_parcels : (answerSent s).parcels = s.parcels := by
  unfold answerSent; split <;> [skip; split] <;> simp
@[simp] theorem answerSent_ee : (answerSent s).ee = s.ee := by
  unfold answerSent; split <;> [skip; split] <;> simp
@[simp] theorem answerSent_round : (answerSent s).round = s.round := by
  unfold answerSent; split <;> [skip; split] <;> simp
@[simp] theorem answerSent_peers : (answerSent s).peers = s.peers := by
  unfold answerSent; split <;> [skip; split] <;> simp
@[simp] theorem answerSent_ct : (answerSent s).ct = s.ct := by
  unfold answerSent; split <;> [skip; split] <;> simp
@[simp] theorem answerSent_fresh : (answerSent s).fresh = s.fresh := by
  unfold answerSent; split <;> [skip; split] <;> simp
@[simp] theorem answerSent_aq : (answerSent s).aq = s.aq := by
  unfold answerSent; split <;> [skip; split] <;> simp
@[simp] theorem answerSent_alertN : (answerSent s).alertN = s.alertN := by
  unfold answerSent; split <;> [skip; split] <;> simp
@[simp] theorem answerSent_freeIndex : (answerSent s).freeIndex = s.freeIndex := by
  unfold answerSent; split <;> [skip; split] <;> simp
@[simp] theorem answerSent_pending : (answerSent s).pending = s.pending := by
  unfold answerSent; split <;> [skip; split] <;> simp

/-! ### Fields queueOwed leaves as they were -/

@[simp] theorem queueOwed_told : (queueOwed s).told = s.told := by
  unfold queueOwed esdAlert; split <;> simp
@[simp] theorem queueOwed_tanks : (queueOwed s).tanks = s.tanks := by
  unfold queueOwed esdAlert; split <;> simp
@[simp] theorem queueOwed_meters : (queueOwed s).meters = s.meters := by
  unfold queueOwed esdAlert; split <;> simp
@[simp] theorem queueOwed_valves : (queueOwed s).valves = s.valves := by
  unfold queueOwed esdAlert; split <;> simp
@[simp] theorem queueOwed_terms : (queueOwed s).terms = s.terms := by
  unfold queueOwed esdAlert; split <;> simp
@[simp] theorem queueOwed_parcels : (queueOwed s).parcels = s.parcels := by
  unfold queueOwed esdAlert; split <;> simp
@[simp] theorem queueOwed_ee : (queueOwed s).ee = s.ee := by
  unfold queueOwed esdAlert; split <;> simp
@[simp] theorem queueOwed_round : (queueOwed s).round = s.round := by
  unfold queueOwed esdAlert; split <;> simp
@[simp] theorem queueOwed_peers : (queueOwed s).peers = s.peers := by
  unfold queueOwed esdAlert; split <;> simp
@[simp] theorem queueOwed_ct : (queueOwed s).ct = s.ct := by
  unfold queueOwed esdAlert; split <;> simp
@[simp] theorem queueOwed_fresh : (queueOwed s).fresh = s.fresh := by
  unfold queueOwed esdAlert; split <;> simp
@[simp] theorem queueOwed_qq : (queueOwed s).qq = s.qq := by
  unfold queueOwed esdAlert; split <;> simp
@[simp] theorem queueOwed_alertN : (queueOwed s).alertN = s.alertN := by
  unfold queueOwed esdAlert; split <;> simp
@[simp] theorem queueOwed_freeIndex : (queueOwed s).freeIndex = s.freeIndex := by
  unfold queueOwed esdAlert; split <;> simp
@[simp] theorem queueOwed_pending : (queueOwed s).pending = s.pending := by
  unfold queueOwed esdAlert; split <;> simp

/-! ### Fields closeParcel leaves as they were -/

@[simp] theorem closeParcel_sr (p : ParcelNo) (d : Int) (whileHeld : Bool) :
    (closeParcel p d whileHeld s).sr = s.sr := by
  simp [closeParcel]
@[simp] theorem closeParcel_told (p : ParcelNo) (d : Int) (whileHeld : Bool) :
    (closeParcel p d whileHeld s).told = s.told := by
  simp [closeParcel]
@[simp] theorem closeParcel_tanks (p : ParcelNo) (d : Int) (whileHeld : Bool) :
    (closeParcel p d whileHeld s).tanks = s.tanks := by
  simp [closeParcel]
@[simp] theorem closeParcel_meters (p : ParcelNo) (d : Int) (whileHeld : Bool) :
    (closeParcel p d whileHeld s).meters = s.meters := by
  simp [closeParcel]
@[simp] theorem closeParcel_valves (p : ParcelNo) (d : Int) (whileHeld : Bool) :
    (closeParcel p d whileHeld s).valves = s.valves := by
  simp [closeParcel]
@[simp] theorem closeParcel_terms (p : ParcelNo) (d : Int) (whileHeld : Bool) :
    (closeParcel p d whileHeld s).terms = s.terms := by
  simp [closeParcel]
@[simp] theorem closeParcel_ee (p : ParcelNo) (d : Int) (whileHeld : Bool) :
    (closeParcel p d whileHeld s).ee = s.ee := by
  simp [closeParcel]
@[simp] theorem closeParcel_round (p : ParcelNo) (d : Int) (whileHeld : Bool) :
    (closeParcel p d whileHeld s).round = s.round := by
  simp [closeParcel]
@[simp] theorem closeParcel_peers (p : ParcelNo) (d : Int) (whileHeld : Bool) :
    (closeParcel p d whileHeld s).peers = s.peers := by
  simp [closeParcel]
@[simp] theorem closeParcel_ct (p : ParcelNo) (d : Int) (whileHeld : Bool) :
    (closeParcel p d whileHeld s).ct = s.ct := by
  simp [closeParcel]
@[simp] theorem closeParcel_fresh (p : ParcelNo) (d : Int) (whileHeld : Bool) :
    (closeParcel p d whileHeld s).fresh = s.fresh := by
  simp [closeParcel]
@[simp] theorem closeParcel_qq (p : ParcelNo) (d : Int) (whileHeld : Bool) :
    (closeParcel p d whileHeld s).qq = s.qq := by
  simp [closeParcel]
@[simp] theorem closeParcel_alertN (p : ParcelNo) (d : Int) (whileHeld : Bool) :
    (closeParcel p d whileHeld s).alertN = s.alertN := by
  simp [closeParcel]
@[simp] theorem closeParcel_freeIndex (p : ParcelNo) (d : Int) (whileHeld : Bool) :
    (closeParcel p d whileHeld s).freeIndex = s.freeIndex := by
  simp [closeParcel]
@[simp] theorem closeParcel_pending (p : ParcelNo) (d : Int) (whileHeld : Bool) :
    (closeParcel p d whileHeld s).pending = s.pending := by
  simp [closeParcel]

/-! ### Folds -/

/-- What every turn of a fold keeps, the fold keeps. -/
theorem foldl_keeps {σ ι : Type} {P : σ → Prop} {f : σ → ι → σ} {l : List ι}
    (h : ∀ x ∈ l, ∀ s, P s → P (f s x)) {s : σ} (h0 : P s) : P (l.foldl f s) := by
  induction l generalizing s with
  | nil => exact h0
  | cons x xs ih =>
    exact ih (fun y hy => h y (List.mem_cons_of_mem _ hy)) (h x List.mem_cons_self s h0)

/-- A field every turn of a fold leaves as it was, the fold leaves as it was. -/
theorem foldl_field {σ ι γ : Type} {g : σ → γ} {f : σ → ι → σ} {l : List ι}
    (h : ∀ x ∈ l, ∀ s, g (f s x) = g s) (s : σ) : g (l.foldl f s) = g s :=
  foldl_keeps (P := fun t => g t = g s) (fun x hx t ht => (h x hx t).trans ht) rfl

end Sys2Proof.Laws
end

