-- ==== Sys2Proof/Laws/Due.lean ====
section
/-! SUPPORT. The acts that fall due: what a zero and an owner's act can do, that a node with nothing due is as it
was after them, and what a stage does with a record. -/

namespace Sys2Proof.Laws

open Machine Safety

variable {s : State}

/-! ### Zeros and owners -/

/-- Everything a zero can do (R159): nothing where it is not due, else the reload and the timer's work. -/
theorem zeroEvent_cases (i : TimerNo) (work : State → State) (s : State) :
    (s.ct.timers[i].zeroDue = false ∧ zeroEvent i work s = s)
      ∨ (s.ct.timers[i].zeroDue = true ∧ zeroEvent i work s = work (s.mapTimer i Timer.reload)) := by
  by_cases h : s.ct.timers[i].zeroDue = true
  · exact .inr ⟨h, if_pos h⟩
  · exact .inl ⟨by simpa using h, if_neg h⟩

/-- A zero that is not due does nothing. -/
theorem zeroEvent_idle {i : TimerNo} (work : State → State) (h : s.ct.timers[i].zeroDue = false) :
    zeroEvent i work s = s :=
  if_neg (by rw [h]; exact Bool.false_ne_true)

/-- Everything an owner's act that waits can do (R184). -/
theorem settleOwner_cases (s : State) :
    (s.told = none ∧ settleOwner s = s)
      ∨ ∃ i, s.told = some i ∧ settleOwner s = ownerTold i { s with told := none } := by
  unfold settleOwner
  cases h : s.told <;> simp

/-- Without an owner told there is no act of an owner. -/
theorem settleOwner_none (h : s.told = none) : settleOwner s = s := by
  simp [settleOwner, h]

/-- With no zero due no zero is taken. -/
theorem settleZeros_none (h : ∀ i : TimerNo, s.ct.timers[i].zeroDue = false) : settleZeros s = s := by
  simp only [settleZeros, zero0, zero1, zero2, zero3, zeroEvent_idle _ (h 0), zeroEvent_idle _ (h 1),
    zeroEvent_idle _ (h 2), zeroEvent_idle _ (h 3)]

/-! ### ESD edges and the stagger -/

/-- Everything the end of a measurement can do (R198): nothing where the level has not stood for 20 ms, else the
accepted assertion. -/
theorem assertEsd_cases (s : State) :
    (s.sr.stableAt .asserted = false ∧ assertEsd s = s)
      ∨ (s.sr.stableAt .asserted = true ∧ assertEsd s = acceptAssertion s) := by
  unfold assertEsd
  cases h : s.sr.stableAt .asserted <;> simp

/-- Everything the end of a measurement can do (R198): nothing where the level has not stood for 20 ms, else the
accepted release. -/
theorem releaseEsd_cases (s : State) :
    (s.sr.stableAt .released = false ∧ releaseEsd s = s)
      ∨ (s.sr.stableAt .released = true ∧ releaseEsd s = acceptRelease s) := by
  unfold releaseEsd
  cases h : s.sr.stableAt .released <;> simp

/-- Everything the end of the stagger can do (R199): nothing where it has not run out, else its acts. -/
theorem stopStagger_cases (s : State) :
    (s.sr.stagger ≠ .running 0 ∧ stopStagger s = s) ∨ (s.sr.stagger = .running 0 ∧ stopStagger s = endStagger s) := by
  by_cases h : s.sr.stagger = .running 0
  · exact .inr ⟨h, if_pos h⟩
  · exact .inl ⟨h, if_neg h⟩

/-! ### What is due before a command -/

/-- A node with nothing due is as it was. -/
theorem settle_calm (h : Calm s) : settle s = s := by
  obtain ⟨told, zeros, ⟨asserted, released⟩, stagger⟩ := h
  simp [settle, settleTimed, settleOwner_none told, settleZeros_none zeros, assertEsd, releaseEsd, stopStagger,
    asserted, released, stagger]

/-- A property that every act which can fall due keeps, what is due before a command keeps. -/
theorem settle_keeps {P : State → Prop} (ho : ∀ t, P t → P (settleOwner t))
    (h0 : ∀ t, P t → P (zero0 t)) (h1 : ∀ t, P t → P (zero1 t)) (h2 : ∀ t, P t → P (zero2 t))
    (h3 : ∀ t, P t → P (zero3 t)) (ha : ∀ t, P t → P (assertEsd t)) (hr : ∀ t, P t → P (releaseEsd t))
    (hs : ∀ t, P t → P (stopStagger t)) (h : P s) : P (settle s) :=
  hs _ (hr _ (ha _ (h3 _ (h2 _ (h1 _ (h0 _ (ho _ h)))))))

/-! ### Stages -/

/-- Everything a stage can do with the records it has left (R109): end, end with a record, or go on from one. -/
theorem dealNext_cases {α : Type} (next : Stage) (left : State → List α) (act : State → α → State) (s : State) :
    (left s = [] ∧ dealNext next left act s = toStage next s)
      ∨ ∃ x rest, left s = x :: rest
        ∧ ((left (act s x) = [] ∧ dealNext next left act s = toStage next (act s x))
          ∨ (left (act s x) ≠ [] ∧ dealNext next left act s = act s x)) := by
  unfold dealNext
  cases h : left s with
  | nil => exact .inl ⟨rfl, rfl⟩
  | cons x rest =>
    refine .inr ⟨x, rest, rfl, ?_⟩
    cases h' : left (act s x) with
    | nil => exact .inl ⟨rfl, by simp [h']⟩
    | cons y l => exact .inr ⟨by simp, by simp [h']⟩

/-- A stage's command when the running pass has not reached the stage. -/
theorem atStage_other {g : Stage} (work : State → State) (h : s.ee.pass ≠ .running g) : atStage g work s = s := by
  simp [atStage, h]

/-- A stage's command when the running pass has reached the stage. -/
theorem atStage_here {g : Stage} (work : State → State) (h : s.ee.pass = .running g) :
    atStage g work s = work s := by
  simp [atStage, h]

/-- A stage's work on the snapshot that the buffer holds. -/
theorem withSnapshot_some {n : Snapshot} (work : Snapshot → State → State) (h : s.ee.snapshot = some n) :
    withSnapshot work s = work n s := by
  simp [withSnapshot, h]

end Sys2Proof.Laws
end

