-- ==== Sys2Proof/WellFormed.lean ====
section
/-! DEFINITION. Which commands are well formed: a command whose operands are those its row of
spec/opcode_table.json describes. `exec` answers for every command, well formed or not. -/

namespace Sys2Proof

open Machine

/-- A QUERY frame of the kind the row names (Table 10-1, Table 10-2). -/
def WellFormed.queryOf (code : Nat) (f : Frame) : Bool :=
  passes .query f && (byteAt f.payload 1).toNat == code

/-- A CADENCE frame with the HALT and NOW flags the row names (R161). -/
def WellFormed.cadenceOf (halt now : Option Bool) (f : Frame) : Bool :=
  passes .cadence f
    && (halt.all fun b => (byteAt f.payload 1).getLsbD 6 == b)
    && (now.all fun b => (byteAt f.payload 1).getLsbD 7 == b)

/-- Whether a command carries the operands of its row. -/
def Instr.wf : Instr → Bool
  | .gauge f => passes .gauge f
  | .meter f => passes .meter f
  | .valve f => passes .valve f
  | .dmeter f => passes .dmeter f
  | .dparcel f => passes .dparcel f
  | .dtank f => passes .dtank f
  | .droute f => passes .droute f
  | .mark f => passes .mark f
  | .summaryFrame f => passes .summary f
  | .announceFrame f => passes .announce f
  | .answerFrame f => passes .answer f
  | .alertFrame f => passes .alert f
  | .cadenceHalt f => WellFormed.cadenceOf (some true) none f
  | .cadenceNow f => WellFormed.cadenceOf (some false) (some true) f
  | .cadenceResume f => WellFormed.cadenceOf (some false) (some false) f
  | .queryParcel f => WellFormed.queryOf 1 f
  | .queryTank f => WellFormed.queryOf 2 f
  | .queryMeter f => WellFormed.queryOf 3 f
  | .queryTerm f => WellFormed.queryOf 4 f
  | .queryNode f => WellFormed.queryOf 5 f
  | .queryTimer f => WellFormed.queryOf 6 f
  | .badFrame r => !isGood r
  | .addressClash r => isGood r
  | .powerOnReset _ _ => true
  | .resetN _ => true
  | .staggerEnd => true
  | .esdInputChange _ => true
  | .esdAssertionAccepted => true
  | .esdReleaseAccepted => true
  | .t0Zero => true
  | .t1Zero => true
  | .t2Zero => true
  | .t3Zero => true
  | .handOver => true
  | .snapshot => true
  | .holdCauseRecomputation => true
  | .standardVolumeComputation => true
  | .meterConsumption => true
  | .markApplication => true
  | .figureEvaluation => true
  | .publication => true
  | .busIdle => true
  | .lostArbitration => true
  | .readbackClash => true
  | .frameSent => true
  | .referenceTick => true
  | .identifierComplete => true
  | .startBit => true

end Sys2Proof
end

