-- ==== Sys2Proof/Laws/PerInstr.lean ====
section
/-! SUPPORT. A statement of every command, one lemma for each: a well-formed frame command carries a frame of
its row's kind, of a length the kind has and from a station (R174). -/

namespace Sys2Proof.Laws.FramesPass

open Machine Safety

/-- A well-formed frame command's frame passes the tests of R174 that its operands leave open. -/
def Statement (i : Instr) : Prop := ∀ k f, frameOf i = some (k, f) → i.wf = true → passes k f = true

/-- A command without a frame satisfies the statement. -/
theorem of_none {i : Instr} (h : frameOf i = none) : Statement i := by
  intro k f e
  rw [h] at e
  cases e

/-- A frame command whose well-formedness asks for the tests satisfies the statement. -/
theorem of_wf {i : Instr} {k : FrameKind} {f : Frame} (h : frameOf i = some (k, f))
    (hw : i.wf = true → passes k f = true) : Statement i := by
  intro k' f' e
  rw [h] at e
  cases e
  exact hw

/-- A well-formed CADENCE command's frame passes. -/
theorem cadence_passes {a b : Option Bool} {f : Frame} (h : WellFormed.cadenceOf a b f = true) :
    passes .cadence f = true := by
  simp only [WellFormed.cadenceOf, Bool.and_eq_true] at h
  exact h.1.1

/-- A well-formed QUERY command's frame passes. -/
theorem query_passes {n : Nat} {f : Frame} (h : WellFormed.queryOf n f = true) : passes .query f = true := by
  simp only [WellFormed.queryOf, Bool.and_eq_true] at h
  exact h.1

theorem powerOnReset (t : Straps) (e : EsdLevel) : Statement (.powerOnReset t e) := of_none rfl
theorem resetN (e : EsdLevel) : Statement (.resetN e) := of_none rfl
theorem staggerEnd : Statement .staggerEnd := of_none rfl
theorem esdInputChange (e : EsdLevel) : Statement (.esdInputChange e) := of_none rfl
theorem esdAssertionAccepted : Statement .esdAssertionAccepted := of_none rfl
theorem esdReleaseAccepted : Statement .esdReleaseAccepted := of_none rfl
theorem t0Zero : Statement .t0Zero := of_none rfl
theorem t1Zero : Statement .t1Zero := of_none rfl
theorem t2Zero : Statement .t2Zero := of_none rfl
theorem t3Zero : Statement .t3Zero := of_none rfl
theorem handOver : Statement .handOver := of_none rfl
theorem snapshot : Statement .snapshot := of_none rfl
theorem holdCauseRecomputation : Statement .holdCauseRecomputation := of_none rfl
theorem standardVolumeComputation : Statement .standardVolumeComputation := of_none rfl
theorem meterConsumption : Statement .meterConsumption := of_none rfl
theorem markApplication : Statement .markApplication := of_none rfl
theorem figureEvaluation : Statement .figureEvaluation := of_none rfl
theorem publication : Statement .publication := of_none rfl
theorem gauge (f : Frame) : Statement (.gauge f) := of_wf rfl id
theorem meter (f : Frame) : Statement (.meter f) := of_wf rfl id
theorem valve (f : Frame) : Statement (.valve f) := of_wf rfl id
theorem dmeter (f : Frame) : Statement (.dmeter f) := of_wf rfl id
theorem dparcel (f : Frame) : Statement (.dparcel f) := of_wf rfl id
theorem dtank (f : Frame) : Statement (.dtank f) := of_wf rfl id
theorem droute (f : Frame) : Statement (.droute f) := of_wf rfl id
theorem mark (f : Frame) : Statement (.mark f) := of_wf rfl id
theorem summaryFrame (f : Frame) : Statement (.summaryFrame f) := of_wf rfl id
theorem announceFrame (f : Frame) : Statement (.announceFrame f) := of_wf rfl id
theorem answerFrame (f : Frame) : Statement (.answerFrame f) := of_wf rfl id
theorem alertFrame (f : Frame) : Statement (.alertFrame f) := of_wf rfl id
theorem cadenceHalt (f : Frame) : Statement (.cadenceHalt f) := of_wf rfl cadence_passes
theorem cadenceNow (f : Frame) : Statement (.cadenceNow f) := of_wf rfl cadence_passes
theorem cadenceResume (f : Frame) : Statement (.cadenceResume f) := of_wf rfl cadence_passes
theorem queryParcel (f : Frame) : Statement (.queryParcel f) := of_wf rfl query_passes
theorem queryTank (f : Frame) : Statement (.queryTank f) := of_wf rfl query_passes
theorem queryMeter (f : Frame) : Statement (.queryMeter f) := of_wf rfl query_passes
theorem queryTerm (f : Frame) : Statement (.queryTerm f) := of_wf rfl query_passes
theorem queryNode (f : Frame) : Statement (.queryNode f) := of_wf rfl query_passes
theorem queryTimer (f : Frame) : Statement (.queryTimer f) := of_wf rfl query_passes
theorem badFrame (r : RawFrame) : Statement (.badFrame r) := of_none rfl
theorem addressClash (r : RawFrame) : Statement (.addressClash r) := of_none rfl
theorem busIdle : Statement .busIdle := of_none rfl
theorem lostArbitration : Statement .lostArbitration := of_none rfl
theorem readbackClash : Statement .readbackClash := of_none rfl
theorem frameSent : Statement .frameSent := of_none rfl
theorem referenceTick : Statement .referenceTick := of_none rfl
theorem identifierComplete : Statement .identifierComplete := of_none rfl
theorem startBit : Statement .startBit := of_none rfl

end Sys2Proof.Laws.FramesPass
end

