-- ==== Sys2Proof/Laws/Reception.lean ====
section
/-! SUPPORT. What the receive side does with a frame: the cases of `receive`, each said once. -/

namespace Sys2Proof.Laws

open Machine Safety

variable {k : FrameKind} {f : Frame} {a : Station} {s : State}

/-- Where the receive side receives no frame, none is judged (R174, R176). -/
theorem receive_none (owner : Station → State → State) (h : ¬Receiving s) : receive k f owner s = s := by
  have hr : receives s = false := by
    simpa [receives, Receiving] using h
  simp [receive, hr]

/-- The receive side of a receiving node judges the frame. -/
theorem receives_of (h : Receiving s) : receives s = true := by
  simp [receives, h.1, h.2]

/-- A good frame of another station is heard and reaches its owner (R175). -/
theorem receive_from (owner : Station → State → State) (h : From k f a s) :
    receive k f owner s = owner a (heardFrom a s) := by
  obtain ⟨h1, h2, h3, h4, _⟩ := h
  simp [receive, receives_of h4, h1, h2, h3]

/-- A frame of the wrong length is discarded (R174). -/
theorem receive_length (owner : Station → State → State) (hr : Receiving s)
    (h : lengthOk k f.payload.length = false) : receive k f owner s = judged s := by
  simp [receive, receives_of hr, h]

/-- A frame of source address 63 is discarded (R174). -/
theorem receive_source (owner : Station → State → State) (hr : Receiving s) (h : stationOf f.src = none) :
    receive k f owner s = judged s := by
  simp [receive, receives_of hr, h]

/-- A good frame of the node's own address that the node receives is an address clash (R176). -/
theorem receive_clash (owner : Station → State → State) (hr : Receiving s)
    (h1 : lengthOk k f.payload.length = true) (h2 : stationOf f.src = some a)
    (h3 : a.val = s.sr.address.val) : receive k f owner s = goMute (judged s) := by
  simp [receive, receives_of hr, h1, h2, h3]

/-- A property of the state that judging, hearing, muting and the frame's owner keep, reception keeps. -/
theorem receive_keeps {P : State → Prop} {owner : Station → State → State}
    (hj : P s → P (judged s)) (hm : P s → P (goMute (judged s)))
    (ho : ∀ a, stationOf f.src = some a → P s → P (owner a (heardFrom a s))) (h : P s) :
    P (receive k f owner s) := by
  unfold receive
  split
  · split
    · split
      · exact hj h
      · next a ha =>
        split
        · exact hm h
        · exact ho a ha h
    · exact hj h
  · exact h

end Sys2Proof.Laws
end

