-- ==== Sys2Proof/Laws/Tables.lean ====
section
/-! SUPPORT. What a keyed table answers after a record is put into it or dropped, and that both keep its
canonical form. -/

namespace Sys2Proof.Laws

open Machine

variable {α : Type} {ord : α → Nat}

/-- The record put into a table is the one its key finds. -/
theorem findRec_putRec_self (r : α) (l : List α) : findRec ord (ord r) (putRec ord r l) = some r := by
  induction l with
  | nil => simp [putRec, findRec]
  | cons x xs ih =>
    simp only [putRec]
    split
    · simp [findRec]
    · split
      · simp [findRec]
      · next h1 h2 =>
        have : (ord x == ord r) = false := by simp; omega
        simpa [findRec, this] using ih

/-- A record put into a table leaves every other key's record as it was. -/
theorem findRec_putRec_ne {r : α} {k : Nat} (h : k ≠ ord r) (l : List α) :
    findRec ord k (putRec ord r l) = findRec ord k l := by
  have hr : (ord r == k) = false := by simpa using fun e => h e.symm
  induction l with
  | nil => simp [putRec, findRec, hr]
  | cons x xs ih =>
    simp only [putRec]
    split
    · simp [findRec, hr]
    · split
      · next h2 =>
        have hx : (ord x == k) = false := by simp; omega
        simp [findRec, hr, hx]
      · by_cases hx : ord x == k
        · simp [findRec, hx]
        · simpa [findRec, hx] using ih

/-- A dropped key finds no record. -/
theorem findRec_dropRec_self (k : Nat) (l : List α) : findRec ord k (dropRec ord k l) = none := by
  simp only [findRec, List.find?_eq_none, dropRec, List.mem_filter]
  rintro x ⟨-, hx⟩
  simpa using hx

/-- Dropping a key leaves every other key's record as it was. -/
theorem findRec_dropRec_ne {k j : Nat} (h : j ≠ k) (l : List α) :
    findRec ord j (dropRec ord k l) = findRec ord j l := by
  induction l with
  | nil => rfl
  | cons x xs ih =>
    by_cases hk : ord x = k
    · have hj : (ord x == j) = false := by simp; omega
      simpa [dropRec, findRec, hk, hj, show (k == j) = false by simp; omega] using ih
    · by_cases hj : ord x == j
      · simp [dropRec, findRec, hk, hj]
      · simpa [dropRec, findRec, hk, hj] using ih

/-- A record found has the key asked for. -/
theorem findRec_ord {k : Nat} {l : List α} {r : α} (h : findRec ord k l = some r) : ord r = k := by
  simpa using List.find?_some h

theorem findRec_mem {k : Nat} {l : List α} {r : α} (h : findRec ord k l = some r) : r ∈ l :=
  List.mem_of_find?_eq_some h

/-- Every record after a put is the new one or stood there before. -/
theorem mem_putRec {r x : α} {l : List α} (h : x ∈ putRec ord r l) : x = r ∨ x ∈ l := by
  induction l with
  | nil => simp [putRec] at h; exact .inl h
  | cons y ys ih =>
    simp only [putRec] at h
    split at h
    · simp at h; rcases h with rfl | rfl | h <;> simp [*]
    · split at h
      · simp at h; rcases h with rfl | h <;> simp [*]
      · simp at h
        rcases h with rfl | h
        · simp
        · rcases ih h with rfl | h <;> simp [*]

theorem mem_dropRec {k : Nat} {x : α} {l : List α} (h : x ∈ dropRec ord k l) : x ∈ l ∧ ord x ≠ k := by
  simpa [dropRec] using h

/-- A strictly rising table, as a chain of its keys. -/
theorem keysRising_iff (l : List α) : keysRising ord l = true ↔ l.Pairwise (fun a b => ord a < ord b) := by
  induction l with
  | nil => simp [keysRising]
  | cons x xs ih =>
    cases xs with
    | nil => simp [keysRising]
    | cons y ys =>
      simp only [keysRising, Bool.and_eq_true, decide_eq_true_eq, ih, List.pairwise_cons, List.mem_cons]
      constructor
      · rintro ⟨h, hy, hp⟩
        exact ⟨fun a ha => by rcases ha with rfl | ha; exacts [h, lt_trans h (hy a ha)], hy, hp⟩
      · rintro ⟨h, hy, hp⟩
        exact ⟨h y (.inl rfl), hy, hp⟩

/-- A put keeps the canonical form. -/
theorem keysRising_putRec (r : α) {l : List α} (h : keysRising ord l = true) :
    keysRising ord (putRec ord r l) = true := by
  rw [keysRising_iff] at h ⊢
  induction l with
  | nil => simp [putRec]
  | cons x xs ih =>
    obtain ⟨hx, hp⟩ := List.pairwise_cons.1 h
    simp only [putRec]
    split
    · next h1 =>
      refine List.pairwise_cons.2 ⟨fun a ha => ?_, h⟩
      rcases List.mem_cons.1 ha with rfl | ha
      · exact h1
      · exact lt_trans h1 (hx a ha)
    · split
      · next h1 h2 => exact List.pairwise_cons.2 ⟨fun a ha => h2 ▸ hx a ha, hp⟩
      · next h1 h2 =>
        refine List.pairwise_cons.2 ⟨fun a ha => ?_, ih hp⟩
        rcases mem_putRec ha with rfl | ha
        · omega
        · exact hx a ha

/-- Leaving records out keeps the canonical form. -/
theorem keysRising_filter (p : α → Bool) {l : List α} (h : keysRising ord l = true) :
    keysRising ord (l.filter p) = true := by
  rw [keysRising_iff] at h ⊢
  exact h.filter p

theorem keysRising_dropRec (k : Nat) {l : List α} (h : keysRising ord l = true) :
    keysRising ord (dropRec ord k l) = true := keysRising_filter _ h

/-- Changing records without their keys keeps the canonical form. -/
theorem keysRising_map {f : α → α} (hf : ∀ x, ord (f x) = ord x) {l : List α} (h : keysRising ord l = true) :
    keysRising ord (l.map f) = true := by
  rw [keysRising_iff] at h ⊢
  rw [List.pairwise_map]
  simpa [hf] using h

/-- A put adds a record where the key had none, and none where it had one. -/
theorem length_putRec (r : α) {l : List α} (h : keysRising ord l = true) :
    (putRec ord r l).length = if (findRec ord (ord r) l).isSome then l.length else l.length + 1 := by
  rw [keysRising_iff] at h
  induction l with
  | nil => simp [putRec, findRec]
  | cons x xs ih =>
    obtain ⟨hx, hp⟩ := List.pairwise_cons.1 h
    simp only [putRec]
    split
    · next h1 =>
      have : findRec ord (ord r) (x :: xs) = none := by
        simp only [findRec, List.find?_eq_none, List.mem_cons]
        rintro a (rfl | ha)
        · simp; omega
        · have := hx a ha; simp; omega
      simp [this]
    · split
      · next h1 h2 => simp [findRec, h2]
      · next h1 h2 =>
        have hx' : (ord x == ord r) = false := by simp; omega
        have ih' := ih hp
        simp only [List.length_cons, ih', findRec, List.find?_cons, hx']
        split <;> simp [*]

theorem length_dropRec_le (k : Nat) (l : List α) : (dropRec ord k l).length ≤ l.length :=
  List.length_filter_le _ _

/-- A key's record in a canonical table is the only one of its key. -/
theorem findRec_of_mem {l : List α} (h : keysRising ord l = true) {r : α} (hr : r ∈ l) :
    findRec ord (ord r) l = some r := by
  rw [keysRising_iff] at h
  induction l with
  | nil => simp at hr
  | cons x xs ih =>
    obtain ⟨hx, hp⟩ := List.pairwise_cons.1 h
    rcases List.mem_cons.1 hr with rfl | hr
    · simp [findRec]
    · have : (ord x == ord r) = false := by have := hx r hr; simp; omega
      simpa [findRec, this] using ih hp hr

/-- Distinct keys have distinct codes. -/
theorem keyCode_injective {a b : Key} (h : keyCode a = keyCode b) : a = b := by
  cases a; cases b
  simp only [keyCode] at h
  simp only [Key.mk.injEq, Fin.ext_iff]
  omega

end Sys2Proof.Laws
end

