-- ==== Sys2Proof/Laws/Vectors.lean ====
section
/-! SUPPORT. What a replaced place and a mapped vector hold. -/

namespace Sys2Proof.Laws

open Machine

variable {α β : Type} {n : Nat}

/-- A place of a vector with one place replaced, read at a number in range: the form simp brings every read
to. -/
@[simp] theorem setPlace_getElem (v : Vector α n) (i : Fin n) (x : α) (j : Nat) (h : j < n) :
    (setPlace v i x)[j] = if i.val = j then x else v[j] := by
  simp [setPlace, Vector.getElem_set]

/-- A place of a mapped vector, read at a number in range. -/
@[simp] theorem mapPlaces_getElem (v : Vector α n) (f : Fin n → α → β) (j : Nat) (h : j < n) :
    (mapPlaces v f)[j] = f ⟨j, h⟩ v[j] := by
  simp [mapPlaces]

theorem setPlace_get_self (v : Vector α n) (i : Fin n) (x : α) : (setPlace v i x)[i] = x := by simp

theorem setPlace_get_ne (v : Vector α n) {i j : Fin n} (x : α) (h : j ≠ i) :
    (setPlace v i x)[j] = v[j] := by
  have : i.val ≠ j.val := fun e => h (Fin.ext e.symm)
  simp [this]

theorem setPlace_get (v : Vector α n) (i j : Fin n) (x : α) :
    (setPlace v i x)[j] = if j = i then x else v[j] := by
  by_cases h : j = i
  · subst h; simp
  · rw [setPlace_get_ne v x h, if_neg h]

theorem mapPlaces_get (v : Vector α n) (f : Fin n → α → β) (i : Fin n) :
    (mapPlaces v f)[i] = f i v[i] := by simp

/-- Two vectors that agree at every place are one. -/
theorem vector_ext {v w : Vector α n} (h : ∀ i : Fin n, v[i] = w[i]) : v = w := by
  apply Vector.ext
  intro i hi
  exact h ⟨i, hi⟩

/-- A member of a vector stands at some place. -/
theorem mem_toList_iff (v : Vector α n) (x : α) : x ∈ v.toList ↔ ∃ i : Fin n, v[i] = x := by
  rw [Vector.mem_toList_iff, Vector.mem_iff_getElem]
  constructor
  · rintro ⟨i, hi, rfl⟩; exact ⟨⟨i, hi⟩, rfl⟩
  · rintro ⟨i, rfl⟩; exact ⟨i.val, i.isLt, rfl⟩

theorem get_mem_toList (v : Vector α n) (i : Fin n) : v[i] ∈ v.toList := (mem_toList_iff v _).2 ⟨i, rfl⟩

/-- Every member after a replacement is the new one or stood there before. -/
theorem mem_setPlace {v : Vector α n} {i : Fin n} {x y : α} (h : y ∈ (setPlace v i x).toList) :
    y = x ∨ y ∈ v.toList := by
  obtain ⟨j, rfl⟩ := (mem_toList_iff _ _).1 h
  rw [setPlace_get]
  split
  · exact .inl rfl
  · exact .inr (get_mem_toList v j)

/-- Every member of a mapped vector is the image of a place. -/
theorem mem_mapPlaces {v : Vector α n} {f : Fin n → α → β} {y : β} (h : y ∈ (mapPlaces v f).toList) :
    ∃ i : Fin n, y = f i v[i] := by
  obtain ⟨j, rfl⟩ := (mem_toList_iff _ _).1 h
  exact ⟨j, mapPlaces_get v f j⟩

@[simp] theorem setPlace_same (v : Vector α n) (i : Fin n) : setPlace v i v[i] = v := by
  apply vector_ext
  intro j
  rw [setPlace_get]
  split
  · next h => rw [h]
  · rfl

end Sys2Proof.Laws
end

