-- ==== Sys2Proof/Tests/Slice0.lean ====
section
/-! SUPPORT. The model's own tests: the well-formedness checks, one step of each command with the result the
manual's worked cases and tables give, and a witness for every statement that has hypotheses. -/

set_option maxRecDepth 8000

namespace Sys2Proof.Tests

open Machine Safety

/-! ### Helpers -/

/-- A frame of class 2 from a station address. -/
def fr (src : Nat) (p : List Byte) : Frame := ⟨2, BitVec.ofNat 6 src, p⟩

/-- The state after a command. -/
def after (c : Instr) (s : State) : State :=
  match exec c s with
  | .next t => t
  | _ => s

/-- A state with the engine at a stage and a snapshot of the state in its buffer. -/
def atPass (g : Stage) (s : State) : State :=
  { s with ee := { s.ee with pass := .running g, snapshot := some (takeSnapshot s) } }

/-- Sections 1.8.1 and 1.8.3: class 2, density 8500, VEF4 10,025, tolerance 30, floor 50, depth 2, option 1. -/
def plan : ParcelDecl := ⟨.discharge, 2, .meter, 1, false, 1, 8500, 10025, 30, 50, 7⟩

/-- Parcel 2 of sections 1.8 and 7.6, ACTIVE at revision 8. -/
def parcel2 : ParcelRec :=
  { ParcelRec.reset with
    decl := ⟨some ⟨8, plan⟩, none, none⟩
    state := .active
    alpha := some 886504
    meterTotal := 3410220
    published := ⟨⟨0, 0, 0, 0, 0, 11530, 14364, false⟩, .active, false⟩ }

/-- Tank (21, 1) of section 3.5 before the sequence. -/
def work21 : TankWork :=
  { side := .ship
    parcel := some 2
    lastSeq := some 40
    reading := some ⟨12480350, 2150, 3840⟩
    confirm := 0
    gaugeInvalid := false
    volumeClamped := false
    tempClamped := false
    rebased := false
    current := some 12217780
    opening := some 12904415 }

/-- The record of tank (21, 1). -/
def tank21 : TankRec := ⟨⟨21, 1⟩, ⟨some ⟨9, ⟨false, 0, 2⟩⟩, none, none⟩, some work21⟩

/-- The meter of section 1.8.2 before the computation. -/
def work40 : MeterWork :=
  { factor := 100120
    lastSeq := some 40
    reading := some ⟨1300, 3620⟩
    baseline := some 16776900
    routed := 3472118
    conflict := 0
    unrouted := 0
    sinceNotice := 0
    residue := 4200000000
    lastCredited := some 2
    breakSeen := false
    deferred := false
    tempClamped := false }

/-- The record of meter (40, 0). -/
def meter40 : MeterRec := ⟨⟨40, 0⟩, ⟨some ⟨3, ⟨false, 100120⟩⟩, none, none⟩, some work40⟩

/-- The term of meter (40, 0) and parcel 2: station 50 valve 0 OPEN. -/
def term2 : Term := ⟨⟨40, 0⟩, 2, [⟨50, 0, true⟩]⟩

/-- The declaration of that term. -/
def termDecl2 : TermDecl := ⟨40, 0, 2, 1, [⟨50, 0, 0⟩]⟩

/-- The record of position 0. -/
def termRec2 : TermRec := ⟨⟨some ⟨4, termDecl2⟩, none, none⟩, some term2⟩

/-- Valve station 50, heard, every valve OPEN. -/
def valve50 : ValveEntry := ⟨50, Vector.replicate 16 .opened, some 3⟩

/-- A peer's entry for parcel 2, divergent twice. -/
def peer5 : PeerEntry := ⟨5, 2, .shore, 8, .active, 100000, 2, false⟩

/-- An EXCURSION alert of parcel 2. -/
def alert2 : AlertRec := ⟨.excursion, .parcel 2, 32032, 17⟩

/-- A NODE query of console 30. -/
def query30 : Query := ⟨30, .node, 0⟩

/-- A node with one parcel under way: all its tables hold a record, an alert and an answer wait in their
slots, every station has been heard, and a frame of another station has begun on the bus. -/
def busy : State :=
  { State.reset with
    bi := ⟨false, true, .idle, false, none⟩
    tanks := [tank21]
    meters := [meter40]
    valves := [valve50]
    terms := setPlace State.reset.terms 0 termRec2
    parcels := setPlace State.reset.parcels 2 parcel2
    peers := [peer5]
    fresh := Vector.replicate 63 ⟨0, none⟩
    aq := ⟨[alert2], false⟩
    qq := ⟨[query30], some ⟨[[30, 69, 0]], 1⟩⟩
    slots := #v[.pending (alertFrame alert2), .pending ⟨.answer, [30, 69, 0]⟩, .empty, .empty] }

/-- The busy node with its alert frame on the bus. -/
def sending : State :=
  { busy with
    bi := ⟨false, true, .sending, false, frameOfSlot 0 0 (.pending (alertFrame alert2))⟩
    slots := #v[.inFlight (alertFrame alert2), .pending ⟨.answer, [30, 69, 0]⟩, .empty, .empty] }

/-- A node on whose bus no frame is under way. -/
def quiet (s : State) : State := { s with bi := { s.bi with receiving := false } }

/-- A parcel record changed in the busy node. -/
def busyWith (f : ParcelRec → ParcelRec) : State := busy.putParcel 2 (f parcel2)

/-! ### Well-formedness: an ill-formed command for each check -/

theorem test_wf_accepts : Instr.wf (.gauge (fr 21 (List.replicate 11 0))) = true := by decide
theorem test_wf_length : Instr.wf (.gauge (fr 21 (List.replicate 10 0))) = false := by decide
theorem test_wf_source : Instr.wf (.meter (fr 63 (List.replicate 7 0))) = false := by decide
theorem test_wf_query_kind : Instr.wf (.queryTank (fr 30 [0, 1, 5])) = false := by decide
theorem test_wf_cadence_halt : Instr.wf (.cadenceHalt (fr 30 [0, 0x80, 5, 0])) = false := by decide
theorem test_wf_cadence_now : Instr.wf (.cadenceNow (fr 30 [0, 0x00, 5, 0])) = false := by decide
theorem test_wf_cadence_resume : Instr.wf (.cadenceResume (fr 30 [0, 0x80, 5, 0])) = false := by decide
theorem test_wf_bad_frame : Instr.wf (.badFrame (drivenFrame 3 .announce 7 (List.replicate 8 0))) = false := by
  decide
theorem test_wf_address_clash :
    Instr.wf (.addressClash { drivenFrame 3 .announce 7 (List.replicate 8 0) with check := 0 }) = false := by decide

/-! ### Arithmetic: sections 1.8.1 to 1.8.3 and Tables 1-1 and 1-3 -/

theorem test_expansion_ends : expansion 2 6100 = 1689061 ∧ expansion 2 11000 = 539668 := by decide
theorem test_standard_volume : standardVolume 886504 ⟨12480350, 2150, 3840⟩ = 12217780 := by decide
theorem test_meter_increment : meterIncrement 1616 100120 98110 4200000000 = (1587, 7801491200) := by decide
theorem test_vef_half_away : vefRounded 63 10080 = 63 ∧ vefRounded (-12345) 10200 = -12103 := by decide
theorem test_figures_pass_3 :
    let e := evaluate plan 5000000 0 4960000 false
    e.figures.sAdj = 4987531 ∧ e.figures.d = 27531 ∧ e.figures.band = 14963 ∧ e.excursive = true := by decide

/-! ### Frames: section 10.5 and Table 10-2 -/

theorem test_identifiers :
    identifier 0 (kindCode .alert) 7 = 775 ∧ identifier 3 (kindCode .announce) 7 = 3911 := by decide
theorem test_gauge_layout :
    decodeGauge [0x81, 41, 0, 0xBE, 0x4A, 0xD8, 0, 8, 0x66, 0x0F, 0x00] = ⟨1, true, 41, ⟨12471000, 2150, 3840⟩⟩ := by
  decide
theorem test_parcel_layout :
    (decodeDParcel [2, 8, 0x1D, 1, 0x21, 0x34, 0x27, 0x29, 30, 0, 50, 7]).copy = ⟨8, plan⟩ := by decide

/-! ### One step of each command -/

theorem test_power_on_address :
    (after (.powerOnReset ⟨.openPin, .high, .low, .high, .openPin⟩ .released) busy).sr.address = 7 := by decide
theorem test_reset_n_keeps_role : (after (.resetN .asserted) sending).sr.role = .ship := by decide
theorem test_stagger_end_starts_t3 :
    (after .staggerEnd (State.atResetEnd 7 .shore .kbit125 .released 0 [] |> fun s =>
      { s with sr := { s.sr with stagger := .running 0 } })).ct.timers[3].run = .running := by decide
theorem test_esd_change_measures : (after (.esdInputChange .asserted) busy).sr.esdTimer = some 0 := by decide
theorem test_esd_assertion_holds :
    (after .esdAssertionAccepted { busy with sr := { busy.sr with esdRaw := .asserted, esdTimer := some 20 } }).parcels[2].state
      = .held := by decide
theorem test_esd_release_alert :
    ((after .esdReleaseAccepted
      { busy with sr := { busy.sr with esdLevel := .asserted, esdTimer := some 20 } }).aq.records.getLast?.map
        (·.value)) = some 0 := by decide
theorem test_esd_pulse_of_20_ms_is_accepted :
    let t := { busy with sr := { busy.sr with esdRaw := .asserted, esdTimer := some 20 } }
    let u := after (.esdInputChange .released) t
    (u.parcels[2].state, u.sr.esdLevel, u.sr.esdTimer, u.aq.records.getLast?.map (·.value))
      = (.held, .asserted, some 0, some 1) := by decide
theorem test_stagger_ends_by_itself :
    let s := State.atResetEnd 7 .shore .kbit125 .released 0 []
    let t := after .startBit (after .referenceTick { s with sr := { s.sr with stagger := .running 1 } })
    (t.sr.stagger, t.ct.timers[3].run) = (.ended, .running) := by decide
theorem test_no_decrement_lost :
    let s := busy.mapTimer 0 fun t => { t with params := ⟨.count, .by100, 1⟩, count := 1 }
    let frame := fun (seq : Byte) t => after (.meter (fr 40 [0x80, seq, 0, 5, 20, 0x0E, 0x24]))
      { t with bi := { t.bi with receiving := true } }
    let t := after .t0Zero (frame 42 (frame 41 s))
    (t.ee.pass, t.ee.pending) = (.running .handOver, true) := by decide
theorem test_halt_after_zero_keeps_reload :
    let s := busy.mapTimer 0 fun t => { t with count := 1, phase := 99 }
    let t := after .t0Zero (after (.cadenceHalt (fr 30 [0, 0x48, 5, 0])) (after .referenceTick s))
    (t.ee.pass, t.ct.timers[0].count, t.ct.timers[0].params.constant) = (.running .handOver, 10, 10) := by decide
theorem test_t0_zero_begins_pass :
    (after .t0Zero (busy.mapTimer 0 fun t => { t with zeroDue := true })).ee.pass = .running .handOver := by decide
theorem test_t1_zero_loads_summary :
    (after .t1Zero (busy.mapTimer 1 fun t => { t with zeroDue := true })).round = ⟨true, 3, false⟩ := by decide
theorem test_t2_zero_ages :
    (after .t2Zero (busy.mapTimer 2 fun t => { t with zeroDue := true })).fresh[21].age = 1 := by decide
theorem test_t3_zero_clears_withheld :
    (after .t3Zero ({ busy with aq := ⟨[alert2], true⟩ }.mapTimer 3 fun t => { t with zeroDue := true })).aq.withheld
      = false := by decide
theorem test_hand_over_accepts_factor :
    ((after .handOver (atPass .handOver
      { busy with meters := [{ meter40 with decl := ⟨some ⟨3, ⟨false, 100120⟩⟩, none, some ⟨4, ⟨false, 99800⟩⟩⟩ }] })).meters.map
        fun r => r.work.map (·.factor)) = [some 99800] := by decide
theorem test_remove_keeps_newer_staged :
    (after .handOver (atPass .handOver { busy with terms := State.reset.terms, meters :=
      [{ meter40 with decl := ⟨some ⟨3, ⟨false, 100120⟩⟩, some ⟨5, ⟨false, 99800⟩⟩, some ⟨4, ⟨true, 0⟩⟩⟩ }] })).meters
      = [⟨⟨40, 0⟩, ⟨none, some ⟨5, ⟨false, 99800⟩⟩, none⟩, none⟩] := by decide
theorem test_snapshot_reading :
    ((after .snapshot (atPass .snapshot busy)).ee.snapshot.map fun n => n.meters.map (·.reading))
      = some [some ⟨1300, 3620⟩] := by decide
theorem test_stage_3_holds_for_stale_tank :
    (after .holdCauseRecomputation (atPass .holdCauses
      { busy with fresh := setPlace busy.fresh 21 ⟨3, none⟩ })).parcels[2].state = .held := by decide
theorem test_stage_4_volume :
    ((after .standardVolumeComputation (atPass .tankVolumes
      { busy with tanks := [{ tank21 with work := some { work21 with reading := some ⟨12471000, 2150, 3840⟩ } }] })).tanks.map
        fun r => r.work.bind (·.current)) = [some 12208625] := by decide
theorem test_stage_5_rollover :
    (after .meterConsumption (atPass .meterFlow busy)).parcels[2].meterTotal = 3411807 := by decide
theorem test_stage_6_close_sets_flag :
    (after .markApplication (atPass .marks
      (busyWith fun r => { r with inHand := some ⟨.closeParcel, 8⟩ }))).parcels[2].closing = true := by decide
theorem test_stage_7_count :
    (after .figureEvaluation (atPass .figures busy)).parcels[2].count = 1 := by decide
theorem test_stage_8_state :
    (after .publication (atPass .publication (busyWith fun r => { r with state := .held }))).parcels[2].published.state
      = .held := by decide
theorem test_stage_7_esd_between_parcels :
    let s := atPass .figures ((busy.putParcel 5 parcel2).putParcel 6 parcel2)
    let t := after .figureEvaluation (after .figureEvaluation s)
    let u := after .esdAssertionAccepted { t with sr := { t.sr with esdRaw := .asserted, esdTimer := some 20 } }
    (after .figureEvaluation u).ee.evaluated.toList.map (·.isSome)
      = [false, false, true, false, false, true, false, false] := by decide
theorem test_stage_3_release_amid :
    let held := { parcel2 with state := .held, holds := ⟨false, false, true, false⟩ }
    let s := atPass .holdCauses ((busy.putParcel 2 held).putParcel 5 held)
    let t := after .holdCauseRecomputation { s with sr := { s.sr with esdLevel := .asserted } }
    let u := after .holdCauseRecomputation
      (after .esdReleaseAccepted { t with sr := { t.sr with esdTimer := some 20 } })
    (u.parcels[2].state, u.parcels[5].state, u.ee.pass) = (.held, .active, .running .tankVolumes) := by decide
theorem test_gauge_step_held :
    ((after (.gauge (fr 21 [0x81, 42, 0, 0xBD, 0x0E, 0xD4, 0, 8, 0x66, 0x0F, 0x00])) busy).tanks.map
      fun r => r.work.map fun w => (w.confirm, w.lastSeq)) = [some (1, some 42)] := by decide
theorem test_meter_invalid_absent :
    ((after (.meter (fr 40 [0x00, 41, 0, 5, 20, 0x0E, 0x24])) busy).meters.map fun r => r.work.bind (·.reading))
      = [none] := by decide
theorem test_valve_states :
    (after (.valve (fr 50 [4, 0x01, 0, 0, 0])) busy).valves.map (fun e => e.states[0]) = [.closed] := by decide
theorem test_dmeter_staged_only :
    (after (.dmeter (fr 30 [164, 1, 0, 1, 0x85, 0xD8])) busy).meters.length = 2 := by decide
theorem test_dparcel_staged :
    (after (.dparcel (fr 30 [2, 9, 0x1D, 1, 0x21, 0x34, 0x27, 0x29, 80, 0, 50, 7])) busy).parcels[2].decl.staged.map
      (·.rev) = some 9 := by decide
theorem test_dtank_clash :
    (after (.dtank (fr 30 [85, 9, 0, 4])) busy).aq.records.map (·.cause) = [.excursion, .planClash] := by decide
theorem test_droute_repeat_ignored :
    (after (.droute (fr 30 [0, 4, 160, 0x12, 200, 0, 0, 0, 0, 0, 0, 0])) busy).terms[0] = termRec2 := by decide
theorem test_mark_pending :
    (after (.mark (fr 30 [2, 2, 8])) busy).parcels[2].pendingMark = some ⟨.closeParcel, 8⟩ := by decide
theorem test_summary_diverges :
    (after (.summaryFrame (fr 5 [0x22, 2, 8, 0, 0, 0, 0, 0, 0, 0, 0, 0, 1, 0x86, 0xA0])) busy).parcels[2].peerDiverge
      = true := by decide
theorem test_announce_vacant :
    (after (.announceFrame (fr 5 [2, 0, 0, 0, 0, 0, 0, 0])) busy).peers = [] := by decide
theorem test_answer_heard :
    (after (.answerFrame (fr 5 [0, 69, 0])) { busy with fresh := State.reset.fresh }).fresh[5].age = 0 := by decide
theorem test_alert_heard :
    (after (.alertFrame (fr 6 (List.replicate 11 0))) { busy with fresh := State.reset.fresh }).fresh[6].age = 0 := by
  decide
theorem test_cadence_halt_keeps_params :
    let t := (after (.cadenceHalt (fr 30 [0, 0x48, 5, 0])) busy).ct.timers[0]
    t.run = .halted ∧ t.params.constant = 10 := by decide
theorem test_cadence_now_zero_is_256 :
    (after (.cadenceNow (fr 30 [0, 0x88, 0, 0])) busy).ct.timers[0].count = 256 := by decide
theorem test_cadence_resume_pending :
    ((after (.cadenceResume (fr 30 [0, 0x0C, 2, 0])) busy).ct.timers[0].pendingSet) = some ⟨.count, .by100, 2⟩ := by
  decide
theorem test_query_parcel_queued :
    (after (.queryParcel (fr 30 [0, 1, 2])) busy).qq.queries = [query30, ⟨30, .parcel, 2⟩] := by decide
theorem test_query_tank_volumes :
    (((after (.queryTank (fr 30 [0, 2, 85])) { busy with
      qq := ⟨[], none⟩, slots := Vector.replicate 4 .empty }).qq.build).map fun b =>
        unsignedAt (b.parts.headD []) 9 7) = some (12217780 * 134217728 + 12904415) := by decide
theorem test_query_meter_parts :
    (((after (.queryMeter (fr 30 [0, 3, 160])) { busy with
      qq := ⟨[], none⟩, slots := Vector.replicate 4 .empty }).qq.build).map fun b => b.parts.length) = some 2 := by
  decide
theorem test_query_term_absent :
    (((after (.queryTerm (fr 30 [0, 4, 24])) { busy with
      qq := ⟨[], none⟩, slots := Vector.replicate 4 .empty }).qq.build).map (·.parts)) = some [[0x9E, 0x54, 24]] := by
  decide
theorem test_query_node_duplicate :
    (after (.queryNode (fr 30 [0, 5, 9])) busy).qq.queries = [query30] := by decide
theorem test_query_timer_elsewhere :
    (after (.queryTimer (fr 30 [1, 6, 0])) busy).qq.queries = [query30] := by decide
theorem test_bad_frame_nothing_heard :
    (after (.badFrame { drivenFrame 3 .announce 5 (List.replicate 8 0) with check := 0 }) busy).peers = [peer5] := by
  decide
theorem test_frame_cut_by_reset_is_lost :
    (after (.answerFrame (fr 5 [0, 69, 0])) (after (.resetN .released) busy)).fresh[5].age = 15 := by decide
theorem test_address_clash_mutes :
    (after (.addressClash (drivenFrame 3 .announce 0 (List.replicate 8 0))) busy).alertN = true := by decide
theorem test_bus_idle_offers_alert :
    (after .busIdle (quiet busy)).slots[0] = .inFlight (alertFrame alert2) := by decide
theorem test_start_bit_ends_idle :
    (after .startBit { busy with bi := ⟨true, false, .idle, false, none⟩ }).bi.busIdle = false := by decide
theorem test_identifier_complete :
    (after .identifierComplete { sending with bi := { sending.bi with tx := .arbitrating } }).bi.tx = .sending := by decide
theorem test_lost_arbitration_pending :
    (after .lostArbitration { sending with bi := { sending.bi with tx := .arbitrating } }).slots[0]
      = .pending (alertFrame alert2) := by decide
theorem test_readback_clash_mutes : (after .readbackClash sending).bi.mute = true := by decide
theorem test_frame_sent_tells : (after .frameSent sending).told = some 0 ∧ (after .frameSent sending).slots[0] = .empty := by
  decide
theorem test_load_after_idle :
    let two := [alert2, { alert2 with cause := .esd }];
    let t := after .frameSent { sending with aq := ⟨two, false⟩ }
    (after .busIdle t).slots[1].isInFlight = true ∧ (after .busIdle (after .t0Zero t)).slots[0].isInFlight = true := by
  decide
theorem test_tick_clock : (after .referenceTick { busy with sr := { busy.sr with clock := 0xFFFFFFFF } }).sr.clock = 0 := by
  decide


/-! ### Witnesses: what meets the hypotheses of each statement, clause by clause

A statement without hypotheses needs none. Where a clause's hypothesis is about every value of a kind, the
witness proves it for the state it names. -/

/-- A slot that holds no pending frame. -/
theorem not_pending (x : Slot) (h : x.isPending = false) (g : TxFrame) : x ≠ .pending g := by
  rintro rfl; cases h

/-- A slot that holds no frame in flight. -/
theorem not_inFlight (x : Slot) (h : x.isInFlight = false) (g : TxFrame) : x ≠ .inFlight g := by
  rintro rfl; cases h

/-- A GAUGE frame of tank (21, 1): sequence, VALID and volume. -/
def gaugeFr (valid : Bool) (seq : Byte) (volume : Nat) : Frame :=
  fr 21 ([if valid then 0x81 else 0x01, seq] ++ unsignedBytes 4 volume ++ [0, 8, 0x66, 0x0F, 0])

/-- The busy node with the step-confirm count of its tank. -/
def confirming (n : Nat) : State :=
  { busy with tanks := [{ tank21 with work := some { work21 with confirm := n } }] }

/-- A state whose timer has its zero due. -/
def due (i : TimerNo) (s : State) : State := s.mapTimer i fun t => { t with zeroDue := true }

theorem witness_DueActsComeFirst :
    (∃ s : State, Calm s ∧ ¬Calm (due 3 s) ∧ ¬Calm { s with told := some 0 }
        ∧ ¬Calm { s with sr := { s.sr with esdRaw := .asserted, esdTimer := some 20 } }
        ∧ ¬Calm { s with sr := { s.sr with stagger := .running 0 } })
      ∧ (∃ t0 t1 t2 t3 asserted released ended : State,
          exec .t0Zero busy = .next t0 ∧ exec .t1Zero t0 = .next t1 ∧ exec .t2Zero t1 = .next t2
            ∧ exec .t3Zero t2 = .next t3 ∧ exec .esdAssertionAccepted t3 = .next asserted
            ∧ exec .esdReleaseAccepted asserted = .next released ∧ exec .staggerEnd released = .next ended)
      ∧ (∀ c : Instr, c = .referenceTick ∨ c = .handOver ∨ c = .esdInputChange .released →
          c ≠ .t0Zero ∧ c ≠ .t1Zero ∧ c ≠ .t2Zero ∧ c ≠ .t3Zero ∧ c ≠ .esdAssertionAccepted
            ∧ c ≠ .esdReleaseAccepted ∧ c ≠ .staggerEnd ∧ c ≠ .busIdle
            ∧ (∀ straps esd, c ≠ .powerOnReset straps esd) ∧ ∀ esd, c ≠ .resetN esd)
      ∧ (busy.told = none ∧ ∀ i : Fin 4, busy.ct.timers[i].zeroDue = false)
      ∧ ∃ u, exec .busIdle { after .frameSent sending with told := none } = .next u :=
  ⟨⟨busy, by decide, by decide, by decide, by decide, by decide⟩,
    ⟨_, _, _, _, _, _, _, rfl, rfl, rfl, rfl, rfl, rfl, rfl⟩,
    by rintro c (rfl | rfl | rfl) <;> simp, by decide, ⟨_, rfl⟩⟩

theorem witness_ExpansionCoefficient :
    (6100 ≤ 6100 ∧ 6100 ≤ 11000 ∧ 11000 ≤ 11000 ∧ expansion 2 11000 ≤ expansion 2 6100)
      ∧ parcelRefusal parcel2 { plan with density := 6099 } = some .range
      ∧ parcelRefusal parcel2 { plan with density := 11001 } = some .range := by decide

theorem witness_CorrectionFactor :
    (ctl5 1689061 (-2001)).limited = true ∧ (ctl5 1689061 (-2000)).limited = false
      ∧ (ctl5 539668 9000).limited = false ∧ (ctl5 539668 9001).limited = true
      ∧ (ctl5 1689061 1500).value = 100000 ∧ (ctl5 1689061 (-2000)).value = 105807
      ∧ (ctl5 1689061 9000).value = 90000 := by decide

theorem witness_TankStandardVolume :
    standardVolume 1689061 ⟨99999999, 0, -2000⟩ = 105806999
      ∧ standardVolume 539668 ⟨100000000, 16777215, 1500⟩ = 83222784
      ∧ standardVolume 539668 ⟨2150, 2150, 1500⟩ = 0 := by decide

theorem witness_MeterIncrementsLossless :
    (MeterSound work40 ∧ work40.lastCredited = some 2)
      ∧ (MeterSound work40 ∧ work40.lastCredited ≠ some 3 ∧ residueIn work40 3 = 0)
      ∧ meterProduct 8388608 105000 105807 9999999999 = 93195221898879999
      ∧ meterIncrement 1 95000 90000 1449999999 = (0, 9999999999)
      ∧ meterIncrement 1 95000 90000 1450000000 = (1, 0) := by decide

theorem witness_FiguresOfAParcel :
    let ends : ParcelDecl := { plan with tolerance := 200, floor := 65535, vef := 9800 }
    ((evaluate { plan with tolerance := 5, floor := 1 } 0 0 0 false).figures.band = 100)
      ∧ (evaluate ends 2147483647 0 (-2147483647) false).figures.band = 42949673
      ∧ (evaluate ends 2147483647 0 (-2147483647) false).figures.saturated = true
      ∧ ((evaluate plan 2147483648 0 0 false).figures.saturated = true
          ∧ (evaluate plan 0 (-2147483648) 0 false).figures.saturated = true
          ∧ (evaluate plan 0 0 0 true).figures.saturated = true
          ∧ (evaluate plan 2100000000 2147483647 2147483647 false).figures.saturated = false)
      ∧ (evaluate plan 5000000 0 4972568 false).excursive = false
      ∧ (vefRounded 1 9800 = 1 ∧ vefRounded 0 10200 = 0 ∧ vefRounded (-12345) 10200 = -12103)
      ∧ parcelRefusal parcel2 { plan with vef := 9799 } = some .range
      ∧ parcelRefusal parcel2 { plan with vef := 10201 } = some .range := by decide

theorem witness_SidesSumTheirTanks :
    (work21.side = .ship ∧ work21.current = some 12217780 ∧ work21.opening = some 12904415)
      ∧ contribution .discharge .shore work21 = 0
      ∧ contribution .discharge .ship { work21 with opening := none } = 0
      ∧ (105806999 ≤ 105806999
          ∧ contribution .load .ship { work21 with current := some 105806999, opening := some 0 } = 105806999)
      ∧ [tank21, { tank21 with key := ⟨22, 0⟩ }].Perm [{ tank21 with key := ⟨22, 0⟩ }, tank21] :=
  ⟨by decide, by decide, by decide, by decide, .swap _ _ _⟩

theorem witness_NodeFramesAreGood :
    lengthOk .answer (List.replicate 3 (0 : Byte)).length = true
      ∧ lengthOk .answer (List.replicate 16 (255 : Byte)).length = true
      ∧ lengthOk .announce (List.replicate 8 (7 : Byte)).length = true
      ∧ (alert2.value.natAbs ≤ 2147483647 ∧ { alert2 with value := -2147483647 }.value.natAbs ≤ 2147483647)
      ∧ (let idle : State := { busy with bi := ⟨true, false, .idle, false, none⟩ };
          idle.bi.tx = .idle ∧ (offer idle).bi.tx = .arbitrating)
      ∧ (0 < 64 ∧ 63 < 64 ∧ 0 ≠ 63) := by decide

theorem witness_PeersReadWhatNodeSends :
    let shown := fun x : Int =>
      { parcel2 with published := { parcel2.published with figures := ⟨x, x, x, x, x, x, 100, true⟩ } }
    (parcel2.decl.current = some ⟨8, plan⟩)
      ∧ ((shown 2147483647).published.figures.d.natAbs ≤ 2147483647
        ∧ (decodeSummary (summaryPayload .ship 2 (shown 2147483647))).d = 2147483647)
      ∧ ((shown (-2147483647)).published.figures.sAdj.natAbs ≤ 2147483647
        ∧ signed32At (summaryPayload .ship 2 (shown (-2147483647))) 3 = -2147483647)
      ∧ TablesSound busy := by decide

theorem witness_GoodFramesAreHeard :
    (frameOf (.gauge (gaugeFr true 41 0)) = some (.gauge, gaugeFr true 41 0) ∧ From .gauge (gaugeFr true 41 0) 21 busy)
      ∧ From .meter (fr 62 (List.replicate 7 0)) 62 busy
      ∧ From .summary (fr 5 (0x22 :: List.replicate 14 0)) 5 busy
      ∧ From .announce (fr 5 (List.replicate 8 0)) 5 busy
      ∧ From .answer (fr 5 (List.replicate 3 0)) 5 busy
      ∧ From .answer (fr 5 (List.replicate 16 0)) 5 busy
      ∧ From .alert (fr 1 (List.replicate 11 0)) 1 busy :=
  ⟨by decide, by decide, by decide, by decide, by decide, by decide, by decide⟩

theorem witness_BadFramesAreDiscarded :
    let good := drivenFrame 3 .announce 5 (List.replicate 8 0)
    isGood good = true
      ∧ isGood { good with check := good.check + 1 } = false
      ∧ isGood { good with ending := 0x3F } = false
      ∧ isGood { good with src := 63 } = false
      ∧ isGood { good with kind := 0 } = false
      ∧ isGood { good with kind := 15 } = false
      ∧ (frameOf (.gauge (fr 21 (List.replicate 10 0))) = some (.gauge, fr 21 (List.replicate 10 0))
          ∧ lengthOk .gauge (fr 21 (List.replicate 10 0)).payload.length = false)
      ∧ (frameOf (.mark (fr 63 [0, 1, 2])) = some (.mark, fr 63 [0, 1, 2]) ∧ (fr 63 [0, 1, 2]).src.toNat = 63)
      ∧ (Receiving busy ∧ Calm busy)
      ∧ (¬Receiving (quiet busy) ∧ Calm (quiet busy) ∧ ¬Receiving sending ∧ Calm sending
          ∧ ¬Receiving (after (.resetN .released) busy)) := by
  decide

theorem witness_AddressClashMutes :
    (isGood (drivenFrame 3 .announce 0 (List.replicate 8 0)) = true
        ∧ (drivenFrame 3 .announce 0 (List.replicate 8 0)).src.toNat = busy.sr.address.val ∧ Receiving busy ∧ Calm busy)
      ∧ (frameOf (.mark (fr 0 [0, 1, 2])) = some (.mark, fr 0 [0, 1, 2])
          ∧ lengthOk .mark (fr 0 [0, 1, 2]).payload.length = true ∧ (fr 0 [0, 1, 2]).src.toNat = busy.sr.address.val)
      ∧ (fr 0 [0, 1, 2]).src.toNat = sending.sr.address.val ∧ sending.bi.tx ≠ .idle ∧ Calm sending := by decide

theorem witness_GaugeFrameOutcomes :
    let m := decodeGauge (gaugeFr true 41 0).payload
    let volume := fun v => (((decodeGauge (gaugeFr true 41 v).payload).reading.volume : Int) - 12480350).natAbs
    From .gauge (gaugeFr true 41 0) 21 busy
      ∧ State.reset.tank? ⟨21, m.index⟩ = none
      ∧ busy.tank? ⟨21, m.index⟩ = some tank21
      ∧ { busy with tanks := [{ tank21 with work := none }] }.tank? ⟨21, m.index⟩ = some { tank21 with work := none }
      ∧ tank21.work = some work21
      ∧ (seqTaken work21.lastSeq 40 = false ∧ seqTaken work21.lastSeq 168 = false)
      ∧ (seqTaken work21.lastSeq 41 = true ∧ seqTaken work21.lastSeq 167 = true
          ∧ (decodeGauge (gaugeFr false 41 0).payload).valid = false)
      ∧ (m.valid = true ∧ { work21 with reading := none }.reading = none)
      ∧ work21.reading = some ⟨12480350, 2150, 3840⟩
      ∧ (volume 12430350 = 50000 ∧ volume 12530350 = 50000)
      ∧ (50000 < volume 12430349 ∧ 50000 < volume 12530351 ∧ work21.confirm ≤ 1)
      ∧ (confirming 1).tank? ⟨21, m.index⟩ = some { tank21 with work := some { work21 with confirm := 1 } }
      ∧ (confirming 2).tank? ⟨21, m.index⟩ = some { tank21 with work := some { work21 with confirm := 2 } } := by
  decide

theorem witness_MeterAndValveFrameOutcomes_meter :
    let f := fr 40 [0x80, 41, 0, 5, 20, 0x0E, 0x24]
    let m := decodeMeter f.payload
    From .meter f 40 busy
      ∧ State.reset.meter? ⟨40, m.index⟩ = none
      ∧ busy.meter? ⟨40, m.index⟩ = some meter40
      ∧ { busy with meters := [{ meter40 with work := none }] }.meter? ⟨40, m.index⟩
          = some { meter40 with work := none }
      ∧ meter40.work = some work40
      ∧ seqTaken work40.lastSeq 168 = false
      ∧ (seqTaken work40.lastSeq m.seq = true ∧ m.valid = true)
      ∧ (decodeMeter (fr 40 [0x00, 41, 0, 5, 20, 0x0E, 0x24]).payload).valid = false := by decide

theorem witness_MeterAndValveFrameOutcomes_valve :
    let f := fr 50 [4, 0x01, 0, 0, 0]
    From .valve f 50 busy
      ∧ State.reset.valve? 50 = none
      ∧ (busy.valve? 50 = some valve50 ∧ valve50.lastSeq = some 3)
      ∧ newer 3 3 = false ∧ newer 131 3 = false ∧ newer 4 3 = true ∧ newer 130 3 = true
      ∧ { busy with valves := [{ valve50 with lastSeq := none }] }.valve? 50 = some { valve50 with lastSeq := none } := by
  decide

/-- A DMETER of meter (40, 0): revision, REMOVE and factor. -/
def dmeterFr (rev : Byte) (remove : Bool) (factor : Nat) : Frame :=
  fr 30 ([160, rev, if remove then 1 else 0] ++ unsignedBytes 3 factor)

/-- Meters (1, 0) to (n, 0), declared. -/
def metersUpTo (n : Nat) : List MeterRec := (List.range n).map fun i => { meter40 with key := ⟨Fin.ofNat 63 (i + 1), 0⟩ }

/-- Tanks (1, 0) to (n, 0), declared. -/
def tanksUpTo (n : Nat) : List TankRec := (List.range n).map fun i => { tank21 with key := ⟨Fin.ofNat 63 (i + 1), 0⟩ }

theorem witness_MeterAndTankDeclarationsArrive_meter :
    From .dmeter (dmeterFr 4 false 100120) 30 busy
      ∧ (decodeDMeter (fr 30 [252, 4, 0, 1, 0x87, 0x18]).payload).key = none
      ∧ (decodeDMeter (dmeterFr 4 false 100120).payload).key = some ⟨40, 0⟩
      ∧ (State.reset.meter? ⟨40, 0⟩ = none ∧ (decodeDMeter (dmeterFr 4 true 0).payload).copy.contents.remove = true)
      ∧ ({ busy with meters := metersUpTo 11 }.meter? ⟨40, 0⟩ = none ∧ (metersUpTo 11).length < 12
          ∧ (decodeDMeter (dmeterFr 4 false 100120).payload).copy.contents.remove = false)
      ∧ ({ busy with meters := metersUpTo 12 }.meter? ⟨40, 0⟩ = none ∧ 12 ≤ (metersUpTo 12).length)
      ∧ (busy.meter? ⟨40, 0⟩ = some meter40 ∧ meter40.decl.newestKnown = some ⟨3, ⟨false, 100120⟩⟩)
      ∧ (newerThan 4 meter40.decl.current = true ∧ newerThan 130 meter40.decl.current = true
          ∧ newerThan 4 meter40.decl.handOver = true ∧ newerThan 4 meter40.decl.staged = true)
      ∧ newerThan 3 meter40.decl.current = false
      ∧ (decodeDMeter (dmeterFr 3 false 100120).payload).copy = ⟨3, ⟨false, 100120⟩⟩
      ∧ (decodeDMeter (dmeterFr 3 false 100121).payload).copy = ⟨3, ⟨false, 100121⟩⟩
      ∧ (newerThan 131 meter40.decl.current = false ∧ newerThan 2 meter40.decl.current = false)
      ∧ (Decls.absent : Decls MeterDecl).newestKnown = none := by decide

theorem witness_MeterAndTankDeclarationsArrive_tank :
    let f := fr 30 [85, 10, 0, 2]
    From .dtank f 30 busy
      ∧ (decodeDTank (fr 30 [252, 10, 0, 2]).payload).key = none
      ∧ (decodeDTank f.payload).key = some ⟨21, 1⟩
      ∧ (State.reset.tank? ⟨21, 1⟩ = none ∧ (decodeDTank (fr 30 [85, 10, 0x80, 2]).payload).copy.contents.remove = true)
      ∧ ({ busy with tanks := tanksUpTo 47 }.tank? ⟨21, 1⟩ = none ∧ (tanksUpTo 47).length < 48
          ∧ (decodeDTank f.payload).copy.contents.remove = false)
      ∧ ({ busy with tanks := tanksUpTo 48 }.tank? ⟨21, 1⟩ = none ∧ 48 ≤ (tanksUpTo 48).length)
      ∧ (busy.tank? ⟨21, 1⟩ = some tank21 ∧ tank21.decl.newestKnown = some ⟨9, ⟨false, 0, 2⟩⟩)
      ∧ (newerThan 10 tank21.decl.current = true ∧ newerThan 10 tank21.decl.handOver = true
          ∧ newerThan 10 tank21.decl.staged = true)
      ∧ newerThan 9 tank21.decl.current = false
      ∧ (decodeDTank (fr 30 [85, 9, 0, 2]).payload).copy = ⟨9, ⟨false, 0, 2⟩⟩
      ∧ (decodeDTank (fr 30 [85, 9, 0, 4]).payload).copy = ⟨9, ⟨false, 0, 4⟩⟩
      ∧ newerThan 8 tank21.decl.current = false := by decide

theorem witness_ParcelAndTermDeclarationsArrive :
    let f := fun rev tolerance => fr 30 [2, rev, 0x1D, 1, 0x21, 0x34, 0x27, 0x29, tolerance, 0, 50, 7]
    let g := fun rev => fr 30 [0, rev, 160, 0x12, 200, 0, 0, 0, 0, 0, 0, 0]
    From .dparcel (f 9 30) 30 busy ∧ From .droute (g 5) 30 busy
      ∧ (Decls.absent : Decls ParcelDecl).newestKnown = none ∧ (busy.parcels[3]).decl = Decls.absent
      ∧ (busy.parcels[2].decl.newestKnown = some ⟨8, plan⟩ ∧ newerThan 9 busy.parcels[2].decl.current = true
          ∧ newerThan 9 busy.parcels[2].decl.handOver = true ∧ newerThan 9 busy.parcels[2].decl.staged = true)
      ∧ (decodeDParcel (f 8 30).payload).copy = ⟨8, plan⟩
      ∧ (decodeDParcel (f 8 31).payload).copy = ⟨8, { plan with tolerance := 31 }⟩
      ∧ newerThan 7 busy.parcels[2].decl.current = false
      ∧ (24 ≤ (byteAt (fr 30 [24, 5, 160, 0x12, 200, 0, 0, 0, 0, 0, 0, 0]).payload 0).toNat
          ∧ (byteAt (fr 30 [23, 5, 160, 0x12, 200, 0, 0, 0, 0, 0, 0, 0]).payload 0).toNat = (23 : TermPos).val)
      ∧ (busy.terms[0].decl.newestKnown = some ⟨4, termDecl2⟩ ∧ newerThan 5 busy.terms[0].decl.current = true)
      ∧ (decodeDRoute (g 4).payload).copy = ⟨4, termDecl2⟩
      ∧ newerThan 3 busy.terms[0].decl.current = false := by decide

theorem witness_MarkFrameIsPending :
    From .mark (fr 30 [7, 1, 8]) 30 busy
      ∧ markOfCode (byteAt (fr 30 [7, 1, 8]).payload 1).toNat = some .openParcel
      ∧ markOfCode (byteAt (fr 30 [7, 3, 8]).payload 1).toNat = some .releaseParcel
      ∧ markOfCode (byteAt (fr 30 [7, 0, 8]).payload 1).toNat = none
      ∧ markOfCode (byteAt (fr 30 [7, 4, 8]).payload 1).toNat = none := by decide

theorem witness_AlertQueueTakesAlerts :
    let full := (List.range 16).map fun i => (⟨.stale, .station (Fin.ofNat 63 i), 1, 0⟩ : AlertRec)
    (State.reset.aq.records = [] ∧ State.reset.slots[(0 : Fin 4)] = .empty)
      ∧ (busy.aq.records = [] ++ alert2 :: [] ∧ alert2.cause = .excursion ∧ alert2.subject = .parcel 2
          ∧ ∀ y ∈ ([] ++ [] : List AlertRec), ¬(y.cause = .excursion ∧ y.subject = .parcel 2))
      ∧ (full = full.take 15 ++ ⟨.stale, .station 15, 1, 0⟩ :: []
          ∧ ∀ y ∈ full.take 15 ++ [], ¬(y.cause = .stale ∧ y.subject = .station 15))
      ∧ ((full.take 15).length < 16 ∧ ∀ y ∈ full.take 15, ¬(y.cause = .esd ∧ y.subject = .nothing))
      ∧ (16 ≤ full.length ∧ ∀ y ∈ full, ¬(y.cause = .esd ∧ y.subject = .nothing))
      ∧ (full.length ≤ 16 ∧ full.Pairwise fun a b => ¬(a.cause = b.cause ∧ a.subject = b.subject)) := by decide

/-- A SUMMARY of peer 5 for parcel 2: role code, state code and plan revision. -/
def summaryFr (role state : Nat) (rev : Byte) : Frame :=
  fr 5 ([byteOf (2 + 16 * role), byteOf state, rev] ++ List.replicate 12 0)

theorem witness_PeerFrameCases_summary :
    let m := decodeSummary (summaryFr 2 2 8).payload
    From .summary (summaryFr 2 2 8) 5 busy
      ∧ (decodeSummary (summaryFr 0 2 8).payload).role = none
      ∧ (decodeSummary (summaryFr 2 5 8).payload).state = none
      ∧ (m.role = some .shore ∧ m.state = some .active ∧ m.parcel = 2)
      ∧ (decodeSummary (summaryFr 2 0 8).payload).state = some .vacant
      ∧ State.reset.parcels[m.parcel].state = .vacant
      ∧ busy.parcels[m.parcel].state ≠ .vacant
      ∧ busy.peer? 5 m.parcel = some peer5
      ∧ ({ busy with peers := (List.range 15).map fun i => { peer5 with peer := Fin.ofNat 63 (i + 6) } }.peer? 5 m.parcel
            = none ∧ 15 < 16)
      ∧ { busy with peers := (List.range 16).map fun i => { peer5 with peer := Fin.ofNat 63 (i + 6) } }.peer? 5 m.parcel
            = none := by decide

theorem witness_PeerEntryUpdate :
    let own := busy.parcels[peer5.parcel]
    let shown := busyWith fun r =>
      { r with state := .active, published := { r.published with figures := { r.published.figures with band := 101 } } }
    (∃ c, own.decl.current = some c ∧ c.rev = 8)
      ∧ (own.published.state = .active ∨ own.published.state = .closed)
      ∧ (own.decl.current.map (·.rev) ≠ some 7)
      ∧ (shown.parcels[peer5.parcel].published.figures.d = 11530
          ∧ (shown.parcels[peer5.parcel].published.figures.d - 11580).natAbs
              ≤ shown.parcels[peer5.parcel].published.figures.band / 2
          ∧ shown.parcels[peer5.parcel].published.figures.band / 2
              < (shown.parcels[peer5.parcel].published.figures.d - 11581).natAbs)
      ∧ (own.published.figures.band / 2 < (own.published.figures.d - peer5.d).natAbs
          ∧ { peer5 with count := 1 }.count ≤ 1 ∧ peer5.count = 2 ∧ { peer5 with count := 3 }.count = 3) :=
  ⟨⟨⟨8, plan⟩, by decide⟩, by decide⟩

theorem witness_PeerFrameCases_announce :
    From .announce (fr 5 (List.replicate 8 0)) 5 busy
      ∧ (decodeAnnounce (fr 5 (List.replicate 8 0)).payload).states[(2 : Fin 8)] = some .vacant := by decide

/-- A CADENCE frame for node 0: the flags byte, the constant and the stale limit. -/
def cadenceFr (flags constant limit : Byte) : Frame := fr 30 [0, flags, constant, limit]

theorem witness_CadenceFramesSetTimers :
    From .cadence (cadenceFr 0x40 5 0) 30 busy
      ∧ (decodeCadence (fr 30 [1, 0x40, 5, 0]).payload).target ≠ busy.sr.address.val
      ∧ (let m := decodeCadence (cadenceFr 0x40 0 0).payload;
          m.target = busy.sr.address.val ∧ m.timer ≠ 2 ∧ m.halt = true ∧ m.params.constant = 256)
      ∧ (let m := decodeCadence (cadenceFr 0xC2 5 0).payload;
          m.target = busy.sr.address.val ∧ m.timer = 2 ∧ m.staleLimit = 0 ∧ m.halt = true ∧ m.now = true)
      ∧ (let m := decodeCadence (cadenceFr 0x83 1 0).payload;
          m.timer = 3 ∧ m.halt = false ∧ m.now = true ∧ m.params.constant = 1)
      ∧ (let m := decodeCadence (cadenceFr 0x0D 255 0).payload;
          m.timer = 1 ∧ m.halt = false ∧ m.now = false) := by decide

theorem witness_StationsTurnStale :
    (From .cadence (cadenceFr 0x02 5 1) 30 busy
        ∧ (let m := decodeCadence (cadenceFr 0x02 5 1).payload;
            m.target = busy.sr.address.val ∧ m.timer = 2 ∧ m.staleLimit ≠ 0)
        ∧ (decodeCadence (cadenceFr 0x02 5 0xFF).payload).staleLimit = 15)
      ∧ ((due 2 busy).told = none ∧ (due 2 busy).ct.timers[(2 : Fin 4)].zeroDue = true)
      ∧ (turnedStale { busy with fresh := setPlace busy.fresh 21 ⟨2, none⟩ }
            { busy with fresh := setPlace busy.fresh 21 ⟨3, none⟩ } = [21])
      ∧ (∃ r ∈ busy.tanks, r.key.station = 21 ∧ r.decl.current.isSome = true)
      ∧ (∃ r ∈ busy.meters, r.key.station = 40 ∧ r.decl.current.isSome = true)
      ∧ (∃ e ∈ busy.valves, e.station = 50)
      ∧ (∃ e ∈ busy.peers, e.peer = 5)
      ∧ (¬(∃ r ∈ busy.tanks, r.key.station = 62) ∧ ¬(∃ r ∈ busy.meters, r.key.station = 62)
          ∧ ¬(∃ e ∈ busy.valves, e.station = 62) ∧ ¬∃ e ∈ busy.peers, e.peer = 62) := by decide

theorem witness_TicksRunTimersDown :
    let t0 := State.reset.ct.timers[(0 : Fin 4)]
    let t1 := State.reset.ct.timers[(1 : Fin 4)]
    (Calm State.reset ∧ T3Waits State.reset ∧ t0.run = .running ∧ t0.params.mode = .time ∧ t0.zeroDue = false
        ∧ t0.phase = 0 ∧ t0.pendingSet = none ∧ t0.count = t0.params.constant ∧ 1 ≤ t0.params.constant)
      ∧ ({ t0 with phase := 98 }.phase + 1 < prescaleOf t0.params.prescale)
      ∧ ({ t0 with phase := 99 }.phase + 1 = prescaleOf t0.params.prescale ∧ 1 < t0.count
          ∧ { t0 with count := 1 }.count = 1)
      ∧ ({ t0 with run := .halted }.run = .halted)
      ∧ (t1.run = .running ∧ t1.params.mode = .count ∧ 1 < t1.count ∧ { t1 with count := 1 }.count = 1) := by decide

/-- Every number of ticks can be made from every state. -/
theorem witness_TicksRunTimersDown_ticks (n : Nat) : ∀ s : State, ∃ t, again n .referenceTick s = .next t := by
  induction n with
  | zero => exact fun s => ⟨s, rfl⟩
  | succ n ih => exact fun s => ih _

theorem witness_T0ZeroAsksForPass :
    (busy.ct.timers[(0 : Fin 4)].pendingSet = none
        ∧ { busy.ct.timers[(0 : Fin 4)] with pendingSet := some ⟨.count, .by10, 1⟩ }.pendingSet
            = some ⟨.count, .by10, 1⟩)
      ∧ ((due 0 busy).told = none ∧ (due 0 busy).ct.timers[(0 : Fin 4)].zeroDue = true)
      ∧ (due 0 busy).ee.pass = .idle
      ∧ ((due 0 (atPass .handOver busy)).ee.pass ≠ .idle ∧ (due 0 (atPass .handOver busy)).ee.pending = false)
      ∧ { (atPass .publication busy).ee with pending := true }.pending = true := by decide

theorem witness_T1AndT3ZerosLoadFrames_t1 :
    let due1 := due 1 busy
    (due1.told = none ∧ due1.ct.timers[(1 : Fin 4)].zeroDue = true)
      ∧ { due1 with round := ⟨true, 3, false⟩ }.round.running = true
      ∧ (due1.round.running = false ∧ due1.slots[(2 : Fin 4)] = .empty
          ∧ due1.parcels[(2 : Fin 8)].published.state ≠ .vacant
          ∧ ∀ q : ParcelNo, q < 2 → due1.parcels[q].published.state = .vacant)
      ∧ ((due 1 State.reset).ct.timers[(1 : Fin 4)].zeroDue = true ∧ State.reset.round.running = false
          ∧ ∀ q : ParcelNo, State.reset.parcels[q].published.state = .vacant) := by decide

theorem witness_T1AndT3ZerosLoadFrames_t3 :
    let old : TxFrame := ⟨.announce, announcePayload busy true false⟩
    ((due 3 busy).told = none ∧ (due 3 busy).ct.timers[(3 : Fin 4)].zeroDue = true)
      ∧ (due 3 busy).slots[(3 : Fin 4)] = .empty
      ∧ (setPlace busy.slots 3 (.pending old))[(3 : Fin 4)] = .pending old
      ∧ (byteAt old.payload 0).getLsbD 5 = true
      ∧ (setPlace busy.slots 3 (.inFlight old))[(3 : Fin 4)] = .inFlight old := by decide

/-- The busy node at stage 1 with a hand-over copy for its meter. -/
def meterCopy (c : Copy MeterDecl) : State :=
  atPass .handOver { busy with meters := [{ meter40 with decl := { meter40.decl with handOver := some c } }] }

/-- The busy node at stage 1 with a hand-over copy for its tank. -/
def tankCopy (c : Copy TankDecl) : State :=
  atPass .handOver { busy with tanks := [{ tank21 with decl := { tank21.decl with handOver := some c } }] }

theorem witness_HandOverDecidesEveryCopy :
    let one := meterCopy ⟨4, ⟨false, 99800⟩⟩
    let two := { one with parcels := setPlace one.parcels 3 ({ ParcelRec.reset with
      decl := ⟨none, none, some ⟨1, plan⟩⟩ }) }
    (one.ee.pass = .running .handOver ∧ Calm one ∧ TablesSound one ∧ offersLeft one = [.meter ⟨40, 0⟩])
      ∧ (two.ee.pass = .running .handOver ∧ Calm two ∧ TablesSound two
          ∧ offersLeft two = [.meter ⟨40, 0⟩, .parcel 3])
      ∧ offersLeft (atPass .handOver busy) = [] := by
  refine ⟨⟨?_, ?_, ?_, ?_⟩, ⟨?_, ?_, ?_, ?_⟩, ?_⟩ <;> decide

theorem witness_MeterCopyDecision :
    let rec_ := fun c => { meter40 with decl := { meter40.decl with handOver := some c } }
    (rec_ ⟨4, ⟨true, 0⟩⟩).decl.handOver = some ⟨4, ⟨true, 0⟩⟩
      ∧ ((rec_ ⟨4, ⟨true, 0⟩⟩).decl.current.isSome = true
          ∧ ∃ q : TermPos, busy.terms[q].term = some term2 ∧ term2.meter = (rec_ ⟨4, ⟨true, 0⟩⟩).key)
      ∧ (∀ q : TermPos, State.reset.terms[q].term = none)
      ∧ ({ rec_ ⟨1, ⟨true, 0⟩⟩ with decl := ⟨none, none, some ⟨1, ⟨true, 0⟩⟩⟩ }.decl.current = none)
      ∧ (94999 < 95000 ∧ 105000 < 105001 ∧ meterRefusal busy meter40 ⟨false, 94999⟩ = some .range
          ∧ meterRefusal busy meter40 ⟨false, 105001⟩ = some .range)
      ∧ (meterRefusal busy meter40 ⟨false, 95000⟩ = none ∧ meterRefusal busy meter40 ⟨false, 105000⟩ = none)
      ∧ (((rec_ ⟨4, ⟨true, 0⟩⟩).decl.staged = none)
          ∧ { rec_ ⟨4, ⟨true, 0⟩⟩ with decl := ⟨none, some ⟨5, ⟨false, 99800⟩⟩, some ⟨4, ⟨true, 0⟩⟩⟩ }.decl.staged
              = some ⟨5, ⟨false, 99800⟩⟩)
      ∧ meter40.work = some work40 ∧ { meter40 with work := none }.work = none := by decide

theorem witness_TankCopyDecision :
    let opened := fun (s : State) p => ∃ q, p = some q ∧
      (s.parcels[q].state = .active ∨ s.parcels[q].state = .held ∨ s.parcels[q].state = .closed)
    (tankCopy ⟨10, ⟨true, 0, 2⟩⟩).tanks.map (·.decl.handOver) = [some ⟨10, ⟨true, 0, 2⟩⟩]
      ∧ (tank21.work = some work21 ∧ opened busy work21.parcel)
      ∧ (¬opened (busyWith fun r => { r with state := .declared }) work21.parcel ∧ ¬opened busy none)
      ∧ (sideOfCode 2 = none ∧ assignmentOfCode 8 = none ∧ assignmentOfCode 14 = none)
      ∧ ((7 : ParcelNo).val = 7 ∧ assignmentOfCode 7 = some (some 7) ∧ assignmentOfCode 15 = some none)
      ∧ { tank21 with work := none }.work = none
      ∧ (opened busy work21.parcel ∧ ((none : Option ParcelNo) ≠ work21.parcel ∨ Side.shore ≠ work21.side))
      ∧ (opened busy (some 2) ∧ some 2 ≠ { work21 with parcel := none }.parcel)
      ∧ (some 2 = work21.parcel ∧ Side.ship = work21.side)
      ∧ (¬opened busy none ∧ (some 3 : Option ParcelNo) ≠ none ∧ ¬opened busy (some 3)) := by decide

/-- Parcel 2 of the busy node with a hand-over copy. -/
def parcelCopy (d : ParcelDecl) : State :=
  busyWith fun r => { r with decl := { r.decl with handOver := some ⟨9, d⟩ } }

/-- The ranges of R86. -/
abbrev inRange (d : ParcelDecl) : Prop := 6100 ≤ d.density ∧ d.density ≤ 11000 ∧ 9800 ≤ d.vef ∧ d.vef ≤ 10200
  ∧ 5 ≤ d.tolerance ∧ d.tolerance ≤ 200 ∧ d.floor ≠ 0

theorem witness_ParcelCopyDecision :
    (parcelCopy { plan with floor := 0 }).parcels[(2 : Fin 8)].decl.handOver = some ⟨9, { plan with floor := 0 }⟩
      ∧ (¬inRange { plan with floor := 0 } ∧ ¬inRange { plan with tolerance := 4 }
          ∧ ¬inRange { plan with tolerance := 201 } ∧ ¬inRange { plan with density := 6099 })
      ∧ inRange { plan with density := 6100, vef := 9800, tolerance := 5, floor := 1 }
      ∧ inRange { plan with density := 11000, vef := 10200, tolerance := 200, floor := 65535 }
      ∧ ((parcelCopy plan).parcels[(2 : Fin 8)].state = .active
          ∧ (parcelCopy plan).parcels[(2 : Fin 8)].decl.current = some ⟨8, plan⟩
          ∧ { plan with density := 8501 }.density ≠ plan.density ∧ inRange { plan with density := 8501 })
      ∧ (inRange { plan with tolerance := 31 } ∧ { plan with tolerance := 31 }.density = plan.density)
      ∧ State.reset.parcels[(2 : Fin 8)].state = .vacant := by
  refine ⟨?_, ⟨?_, ?_, ?_, ?_⟩, ?_, ?_, ⟨?_, ?_, ?_, ?_⟩, ⟨?_, ?_⟩, ?_⟩ <;> decide

/-- Position 1 of the busy node with a hand-over copy. -/
def termCopy (d : TermDecl) : State :=
  { busy with terms := setPlace busy.terms 1 ⟨⟨none, none, some ⟨1, d⟩⟩, none⟩ }

/-- Nine stations for literals. -/
def nine : List Literal := (List.range 9).map fun i => ⟨Fin.ofNat 63 (i + 10), 0, true⟩

theorem witness_TermCopyDecision :
    let known := fun k : Key => ∃ r ∈ busy.meters, busy.meter? k = some r ∧ r.decl.current.isSome = true
    let d4 : TermDecl := ⟨40, 0, 7, 4, [⟨10, 0, 0⟩, ⟨11, 1, 15⟩, ⟨12, 0, 1⟩, ⟨62, 1, 2⟩]⟩
    let t4 : Term := ⟨⟨40, 0⟩, 7, [⟨10, 0, true⟩, ⟨11, 15, false⟩, ⟨12, 1, true⟩, ⟨62, 2, false⟩]⟩
    let crowded := fun l => setPlace (termCopy d4).terms 2 ⟨Decls.absent, some ⟨⟨40, 0⟩, 1, l⟩⟩
    let stations := fun l => namedStations
      (heldTerms ({ termCopy d4 with terms := crowded l }.putTerm 1 ⟨(termCopy d4).terms[1].decl, some t4⟩))
    (termCopy d4).terms[(1 : Fin 24)].decl.handOver = some ⟨1, d4⟩
      ∧ ({ d4 with parcel := 15 }.parcel = 15)
      ∧ (termOfDecl { d4 with parcel := 8 } = none ∧ termOfDecl { d4 with meterStation := 63 } = none
          ∧ termOfDecl { d4 with count := 5 } = none)
      ∧ termOfDecl d4 = some t4
      ∧ (known t4.meter ∧ busy.meter? ⟨40, 1⟩ = none)
      ∧ (stations (nine.take 6) = [10, 11, 12, 13, 14, 15, 50, 62] ∧ (stations (nine.take 6)).length ≤ 8)
      ∧ 8 < (stations (nine.take 7)).length
      ∧ busy.valve? 50 = some valve50 ∧ busy.valve? 10 = none := by decide

theorem witness_SnapshotTakesLiveReadings :
    (atPass .snapshot busy).ee.pass = .running .snapshot ∧ Calm (atPass .snapshot busy) := by decide

theorem witness_HoldCausesRecomputed :
    let s := atPass .holdCauses busy
    (s.ee.pass = .running .holdCauses ∧ s.ee.snapshot = some (takeSnapshot busy) ∧ Calm s ∧ s.ee.visited = 0)
      ∧ (State.reset.ee.visited = 0 ∧ ∀ p : ParcelNo, State.reset.parcels[p].state = .vacant)
      ∧ s.parcels[(2 : Fin 8)].state = .active
      ∧ ¬(s.parcels[(3 : Fin 8)].state = .active ∨ s.parcels[(3 : Fin 8)].state = .held) := by decide

theorem witness_StandardVolumesComputed :
    let s := atPass .tankVolumes busy
    let n := takeSnapshot busy
    (s.ee.pass = .running .tankVolumes ∧ s.ee.snapshot = some n ∧ Calm s ∧ TablesSound s ∧ s.ee.visited = 0
        ∧ n.tanks[s.ee.visited]? = some ⟨⟨21, 1⟩, .ship, some 2, work21.reading, false⟩)
      ∧ (takeSnapshot State.reset).tanks.length ≤ State.reset.ee.visited
      ∧ (tank21.work = some work21 ∧ n.tank? tank21.key = some ⟨⟨21, 1⟩, .ship, some 2, work21.reading, false⟩)
      ∧ (work21.parcel = some 2 ∧ (busyWith fun r => { r with state := .closed }).parcels[(2 : Fin 8)].state = .closed)
      ∧ ((busyWith fun r => { r with state := .vacant }).parcels[(2 : Fin 8)].state = .vacant)
      ∧ (s.parcels[(2 : Fin 8)].alpha = some 886504 ∧ work21.reading = some ⟨12480350, 2150, 3840⟩
          ∧ s.parcels[(2 : Fin 8)].state = .active) := by decide

theorem witness_MeterFlowClasses :
    let s := atPass .meterFlow busy
    let n := takeSnapshot busy
    let e : MeterSnap := ⟨⟨40, 0⟩, 100120, some ⟨1300, 3620⟩⟩
    (s.ee.pass = .running .meterFlow ∧ s.ee.snapshot = some n ∧ Calm s ∧ s.ee.visited = 0 ∧ n.meters = [e]
        ∧ n.meters[s.ee.visited]? = some e)
      ∧ (takeSnapshot State.reset).meters.length ≤ State.reset.ee.visited
      ∧ TablesSound s
      ∧ (s.meter? e.key = some meter40 ∧ meter40.work = some work40)
      ∧ State.reset.meter? e.key = none
      ∧ { work40 with baseline := none }.baseline = none
      ∧ work40.baseline = some 16776900
      ∧ ((1300#24).toNat + 16777216 - (16776900#24).toNat) % 16777216 = 1616
      ∧ ((16776900#24).toNat + 16777216 - (16776900#24).toNat) % 16777216 = 0
      ∧ ((8388608#24).toNat + 16777216 - (0#24).toNat) % 16777216 = 8388608
      ∧ ((8388609#24).toNat + 16777216 - (0#24).toNat) % 16777216 = 8388609
      ∧ (s.terms[(0 : Fin 24)].term = some term2 ∧ term2.meter = e.key
          ∧ ∃ l ∈ term2.literals,
              (takeSnapshot { busy with fresh := setPlace busy.fresh 50 ⟨3, none⟩ }).stale[l.station] = true)
      ∧ (s.parcels[(2 : Fin 8)].state = .active ∧ s.parcels[(2 : Fin 8)].decl.current = some ⟨8, plan⟩
          ∧ plan.basis = .meter) := by decide

/-- A literal of a term of the busy node stands on a station fresh and heard. -/
theorem busy_not_deferred : ∀ (q : TermPos) (t : Term), busy.terms[q].term = some t → t.meter = ⟨40, 0⟩ →
    ∀ l ∈ t.literals, (takeSnapshot busy).stale[l.station] = false
      ∧ ∃ v, (takeSnapshot busy).valve? l.station = some v ∧ v.heard = true := by
  have all : ∀ q : TermPos, busy.terms[q].term = if q = 0 then some term2 else none := by decide
  intro q t h _
  rw [all q] at h
  split at h
  · cases h
    intro l hl
    simp only [term2, List.mem_singleton] at hl
    subst hl
    exact ⟨by decide, ⟨50, Vector.replicate 16 .opened, true⟩, by decide, rfl⟩
  · cases h

/-- The busy node with a second term of its meter, for parcel 3. -/
def twoTerms : State := { busy with terms := setPlace busy.terms 1 ⟨Decls.absent, some { term2 with parcel := 3 }⟩ }

theorem witness_FlowGoesToOnePlace :
    let n := takeSnapshot busy
    let e : MeterSnap := ⟨⟨40, 0⟩, 100120, some ⟨1300, 3620⟩⟩
    (busy.meter? e.key = some meter40 ∧ meter40.work = some work40 ∧ e.reading = some ⟨1300, 3620⟩
        ∧ work40.baseline = some 16776900
        ∧ 1616 = ((1300#24).toNat + 16777216 - (16776900#24).toNat) % 16777216 ∧ 1 ≤ 1616 ∧ 1616 ≤ 8388608)
      ∧ (∀ l ∈ term2.literals, ∃ v ∈ n.valves, n.valve? l.station = some v
          ∧ v.states[l.valve] = if l.needOpen then .opened else .closed)
      ∧ (∀ q : TermPos, State.reset.terms[q].term = none)
      ∧ (busy.parcels[(2 : Fin 8)].alpha = some 886504 ∧ busy.parcels[(2 : Fin 8)].state = .active)
      ∧ (busyWith fun r => { r with state := .closed }).parcels[(2 : Fin 8)].state = .closed
      ∧ (twoTerms.terms[(0 : Fin 24)].term = some term2
          ∧ twoTerms.terms[(1 : Fin 24)].term = some { term2 with parcel := 3 } ∧ (2 : ParcelNo) ≠ 3) := by decide

theorem witness_AccumulatorsConserveFlow :
    let e : MeterSnap := ⟨⟨40, 0⟩, 100120, some ⟨1300, 3620⟩⟩
    (busy.meter? e.key = some meter40 ∧ meter40.work = some work40)
      ∧ { e with reading := none }.reading = none
      ∧ { work40 with baseline := none }.baseline = none
      ∧ (8388608 < indicatedDelta 8388609 0 ∧ indicatedDelta 8388608 0 ≤ 8388608)
      ∧ ((consumeMeter (takeSnapshot busy) busy e).meters.map fun r => r.work.map (·.routed)) = [some (3472118 + 1616)]
      ∧ ((consumeMeter (takeSnapshot busy) twoTerms e).meters.map fun r => r.work.map (·.conflict)) = [some 1616]
      ∧ ((consumeMeter (takeSnapshot busy) (busyWith fun r => { r with state := .closed }) e).meters.map fun r =>
          r.work.map fun w => (w.unrouted, w.sinceNotice)) = [some (1616, 616)] := by decide

/-- The busy node at stage 6 with a mark in hand for parcel 2, which stands in a state. -/
def marked (kind : MarkKind) (expected : Byte) (state : ParcelState) : State :=
  atPass .marks (busyWith fun r => { r with inHand := some ⟨kind, expected⟩, state := state })

theorem witness_MarksAppliedInOrder :
    let s := marked .closeParcel 9 .active
    (s.ee.pass = .running .marks ∧ s.ee.snapshot = some (takeSnapshot (busyWith fun r =>
        { r with inHand := some ⟨.closeParcel, 9⟩, state := .active }))
        ∧ Calm s ∧ s.ee.visited = 0)
      ∧ (∀ p : ParcelNo, busy.parcels[p].inHand = none)
      ∧ busy.parcels[(2 : Fin 8)].inHand = none
      ∧ (s.parcels[(2 : Fin 8)].inHand = some ⟨.closeParcel, 9⟩
          ∧ ∀ c ∈ s.parcels[(2 : Fin 8)].decl.current, c.rev ≠ 9)
      ∧ (marked .openParcel 9 .declared).parcels[(2 : Fin 8)].inHand = some ⟨.openParcel, 9⟩
      ∧ (marked .releaseParcel 0 .closed).parcels[(2 : Fin 8)].inHand = some ⟨.releaseParcel, 0⟩
      ∧ State.reset.parcels[(2 : Fin 8)].decl.current = none := by decide

/-- An OPEN in hand with the current revision, and one with another. -/
theorem witness_OpenIsChecked_hand :
    (marked .openParcel 8 .declared).parcels[(2 : Fin 8)].inHand = some ⟨.openParcel, 8⟩
      ∧ (marked .openParcel 8 .declared).parcels[(2 : Fin 8)].decl.current = some ⟨8, plan⟩
      ∧ ((marked .openParcel 9 .declared).parcels[(2 : Fin 8)].inHand = some ⟨.openParcel, 9⟩
          ∧ ∀ c ∈ (marked .openParcel 9 .declared).parcels[(2 : Fin 8)].decl.current, c.rev ≠ 9) := by decide

/-- What the seven checks rest on: each condition at a state that meets it and at one that does not. -/
theorem witness_OpenIsChecked :
    let s := marked .openParcel 8 .declared
    let n := takeSnapshot busy
    let shipOnly := fun w => assignedTanks { s with tanks := [{ tank21 with work := some w }] } 2
    ((marked .openParcel 8 .active).parcels[(2 : Fin 8)].state ≠ .declared
        ∧ s.parcels[(2 : Fin 8)].state = .declared)
      ∧ (s.sr.esdLevel = .released ∧ { s.sr with esdLevel := .asserted }.esdLevel ≠ .released)
      ∧ (assignedTanks s 2 = [(⟨21, 1⟩, work21)] ∧ work21.side = .ship)
      ∧ (shipOnly { work21 with side := .shore } = [(⟨21, 1⟩, { work21 with side := .shore })]
          ∧ assignedTanks { s with tanks := [] } 2 = [])
      ∧ ({ plan with basis := .tank }.basis = .tank ∧ ∀ e ∈ assignedTanks s 2, e.2.side ≠ .shore)
      ∧ (plan.basis = .meter ∧ s.terms[(0 : Fin 24)].term = some term2 ∧ term2.parcel = 2
          ∧ ∀ q : TermPos, State.reset.terms[q].term = none)
      ∧ (∀ e ∈ assignedTanks s 2, n.stale[e.1.station] = false)
      ∧ (∀ e ∈ assignedTanks s 2,
          (takeSnapshot { busy with fresh := setPlace busy.fresh 21 ⟨3, none⟩ }).stale[e.1.station] = true)
      ∧ (∀ e ∈ assignedTanks s 2, n.tank? e.1 = some ⟨⟨21, 1⟩, .ship, some 2, work21.reading, false⟩) := by
  refine ⟨?_, ?_, ?_, ?_, ?_, ?_, ?_, ?_, ?_⟩ <;> decide

/-- Each refusal of an OPEN and its acceptance, each at a state that meets the checks before it. -/
theorem witness_OpenIsChecked_codes :
    let code := fun (n : Snapshot) (s : State) =>
      (applyMark n s 2).aq.records.map (fun r => (r.cause, r.value / 256)) |>.getLast?
    let s := marked .openParcel 8 .declared
    let n := takeSnapshot busy
    let stale := takeSnapshot { busy with fresh := setPlace busy.fresh 21 ⟨3, none⟩ }
    let invalid := takeSnapshot { busy with tanks := [{ tank21 with work := some { work21 with gaugeInvalid := true } }] }
    let tankBasis := s.putParcel 2 { s.parcels[2] with decl := ⟨some ⟨8, { plan with basis := .tank }⟩, none, none⟩ }
    code n (marked .openParcel 8 .active) = some (.openRefused, 2)
      ∧ code n { s with sr := { s.sr with esdLevel := .asserted } } = some (.openRefused, 3)
      ∧ code n { s with tanks := [] } = some (.openRefused, 4)
      ∧ code n tankBasis = some (.openRefused, 5)
      ∧ code n { s with terms := State.reset.terms } = some (.openRefused, 6)
      ∧ code stale s = some (.openRefused, 7)
      ∧ code invalid s = some (.openRefused, 8)
      ∧ (applyMark n s 2).parcels[2].state = .active := by
  refine ⟨?_, ?_, ?_, ?_, ?_, ?_, ?_, ?_⟩ <;> decide

theorem witness_CloseAndReleaseByState :
    ∀ state ∈ [ParcelState.vacant, .declared, .active, .held, .closed],
      ∀ kind ∈ [MarkKind.closeParcel, .releaseParcel],
        (marked kind 8 state).parcels[(2 : Fin 8)].inHand = some ⟨kind, 8⟩
          ∧ (marked kind 8 state).parcels[(2 : Fin 8)].decl.current = some ⟨8, plan⟩
          ∧ (marked kind 8 state).parcels[(2 : Fin 8)].state = state := by decide

theorem witness_FiguresEvaluatedByState :
    ((atPass .figures busy).ee.pass = .running .figures ∧ Calm (atPass .figures busy)
        ∧ (atPass .figures busy).ee.visited = 0)
      ∧ (∀ p : ParcelNo, State.reset.parcels[p].state ≠ .active ∧ State.reset.parcels[p].state ≠ .held)
      ∧ (busy.parcels[(0 : Fin 8)].state = .vacant)
      ∧ (let r := (busyWith fun r => { r with state := .held }).parcels[(2 : Fin 8)];
          r.state = .held ∧ r.closing = false)
      ∧ (let r := (busyWith fun r => { r with state := .held, closing := true }).parcels[(2 : Fin 8)];
          r.state = .held ∧ r.closing = true)
      ∧ (busy.parcels[(2 : Fin 8)].state = .active ∧ busy.parcels[(2 : Fin 8)].decl.current = some ⟨8, plan⟩
          ∧ busy.parcels[(2 : Fin 8)].closing = false)
      ∧ (busyWith fun r => { r with closing := true }).parcels[(2 : Fin 8)].closing = true := by decide

/-- Parcel 2 with a count, its latch and its declared option. -/
def counting (count : Nat) (latched : Bool) (option : Fin 4) : State :=
  busyWith fun r =>
    { r with decl := ⟨some ⟨8, { plan with option := option }⟩, none, none⟩, count := count, excursion := latched }

theorem witness_ToleranceStepRows :
    (∀ option : Fin 4, (counting 1 false option).parcels[(2 : Fin 8)].decl.current
          = some ⟨8, { plan with option := option }⟩
        ∧ (counting 1 false option).parcels[(2 : Fin 8)].state = .active)
      ∧ plan.depthCode = 1
      ∧ (counting 0 false 1).parcels[(2 : Fin 8)].count + 1 < 2
      ∧ (counting 2 true 1).parcels[(2 : Fin 8)].count = 2
      ∧ ((counting 1 true 1).parcels[(2 : Fin 8)].count + 1 = 2
          ∧ (counting 1 true 1).parcels[(2 : Fin 8)].excursion = true)
      ∧ ((counting 1 false 3).parcels[(2 : Fin 8)].count + 1 = 2
          ∧ (counting 1 false 3).parcels[(2 : Fin 8)].excursion = false)
      ∧ ({ busy.sr with role := .independent }.role = .independent ∧ busy.sr.role = .ship) := by decide

theorem witness_PublicationEndsPass :
    ((atPass .publication busy).ee.pass = .running .publication ∧ Calm (atPass .publication busy))
      ∧ (atPass .publication busy).ee.pending = false
      ∧ { (atPass .publication busy).ee with pending := true }.pending = true := by decide

/-- Each of the five stages, run where it acts, on another live picture than the snapshot's. -/
theorem witness_StagesReadSnapshotAlone :
    let later : State := { busyWith fun r => { r with inHand := some ⟨.closeParcel, 8⟩ } with
      fresh := State.reset.fresh
      valves := []
      tanks := [{ tank21 with work := some { work21 with reading := none, gaugeInvalid := true } }]
      meters := [{ meter40 with work := some { work40 with reading := none } }] }
    let run := fun (g : Stage) c => after c { later with ee := (atPass g busy).ee }
    (∀ g ∈ [Stage.holdCauses, .tankVolumes, .meterFlow, .marks, .figures], Calm { later with ee := (atPass g busy).ee })
      ∧ (run .holdCauses .holdCauseRecomputation).parcels[2].state = .active
      ∧ ((run .tankVolumes .standardVolumeComputation).tanks.map fun r => r.work.bind (·.current)) = [some 12217780]
      ∧ (run .meterFlow .meterConsumption).parcels[2].meterTotal = 3411807
      ∧ (run .marks .markApplication).parcels[2].closing = true
      ∧ (run .figures .figureEvaluation).parcels[2].count = 1 := by
  refine ⟨?_, ?_, ?_, ?_, ?_, ?_⟩ <;> decide

theorem witness_ResetsSetEveryPart :
    let straps : Straps := ⟨.low, .low, .low, .low, .low⟩
    let t := after (.powerOnReset straps .asserted) busy
    (sending.sr.address = t.sr.address ∧ sending.sr.role = t.sr.role ∧ sending.sr.rate = t.sr.rate)
      ∧ t.sr.address.val = 0
      ∧ (after (.powerOnReset ⟨.high, .high, .high, .high, .high⟩ .asserted) busy).sr.address.val = 26
      ∧ ¬(EsdLevel.released = .asserted ∧ t.sr.address.val = 0) := by decide

/-- A node in its stagger, with an ESD alert owed or not. -/
def staggering (left : Nat) (owed : Bool) : State :=
  { State.reset with sr := { State.reset.sr with stagger := .running left, esdOwed := owed } }

theorem witness_StaggerEndActs :
    ((staggering 0 false).sr.stagger = .running 0 ∧ (staggering 0 false).sr.esdOwed = false
        ∧ (staggering 0 false).told = none ∧ busy.told = none)
      ∧ ((staggering 0 true).sr.stagger = .running 0 ∧ (staggering 0 true).sr.esdOwed = true)
      ∧ ((staggering 1 false).sr.stagger ≠ .running 0 ∧ (staggering 1 false).sr.stagger = .running 1)
      ∧ busy.sr.stagger ≠ .running 0 := by decide

/-- The ticks of the last clause, on both sides of the milliseconds left and at them. -/
theorem witness_StaggerEndActs_ticks :
    (∃ t, again 249 .referenceTick (staggering 250 true) = .next t)
      ∧ (∃ t, again 250 .referenceTick (staggering 250 true) = .next t)
      ∧ ∃ t, again 251 .referenceTick (staggering 250 true) = .next t :=
  ⟨witness_TicksRunTimersDown_ticks 249 _, witness_TicksRunTimersDown_ticks 250 _,
    witness_TicksRunTimersDown_ticks 251 _⟩

theorem witness_EsdEdgesAccepted :
    let pressed : State := { busy with sr := { busy.sr with esdRaw := .asserted, esdTimer := some 20 } }
    let freed : State := { busy with
      sr := { busy.sr with esdRaw := .released, esdLevel := .asserted, esdTimer := some 20 } }
    let measured : State := { pressed with sr := { pressed.sr with esdTimer := some 19 } }
    (Calm busy ∧ Calm measured ∧ pressed.told = none ∧ freed.told = none ∧ EsdLevel.released = busy.sr.esdRaw)
      ∧ (EsdLevel.released ≠ measured.sr.esdRaw ∧ EsdLevel.released = measured.sr.esdLevel)
      ∧ (EsdLevel.asserted ≠ busy.sr.esdRaw ∧ EsdLevel.asserted ≠ busy.sr.esdLevel)
      ∧ (pressed.sr.esdRaw = .asserted ∧ pressed.sr.esdLevel = .released ∧ pressed.sr.esdTimer = some 20 ∧ 20 ≤ 20)
      ∧ (freed.sr.esdRaw = .released ∧ freed.sr.esdLevel = .asserted ∧ freed.sr.esdTimer = some 20
          ∧ freed.sr.esdOwed = false ∧ { freed.sr with esdOwed := true }.esdOwed = true)
      ∧ (busy.sr.esdRaw = busy.sr.esdLevel ∧ busy.sr.esdTimer = none ∧ EsdLevel.asserted ≠ busy.sr.esdLevel
          ∧ 19 < 20) := by decide

/-- A pulse of 19 ms and one of 20 on the busy node: every run of ticks reaches a next state, and so does the change
back. -/
theorem witness_EsdEdgesAccepted_pulse :
    let raised : State := { busy with sr := { busy.sr with esdRaw := .asserted, esdTimer := some 0 } }
    (∃ t, again 19 .referenceTick raised = .next t)
      ∧ (∃ u, again 19 .referenceTick busy = .next u)
      ∧ (∃ t, again 20 .referenceTick raised = .next t)
      ∧ ∀ t : State, ∃ u, exec (.esdInputChange .released) t = .next u :=
  ⟨witness_TicksRunTimersDown_ticks 19 _, witness_TicksRunTimersDown_ticks 19 _,
    witness_TicksRunTimersDown_ticks 20 _, fun _ => ⟨_, rfl⟩⟩

theorem witness_TransmitStateMoves :
    (Calm (quiet busy) ∧ (quiet busy).bi.tx = .idle ∧ (quiet busy).bi.receiving = false ∧ (quiet busy).bi.mute = false
        ∧ (quiet busy).sr.stagger = .ended ∧ (quiet busy).slots[(0 : Fin 4)] = .pending (alertFrame alert2)
        ∧ ∀ j : Fin 4, j < 0 → ∀ g, (quiet busy).slots[j] ≠ .pending g)
      ∧ (∀ (i : Fin 4) (f : TxFrame), State.reset.slots[i] ≠ .pending f)
      ∧ { busy.bi with mute := true }.mute = true
      ∧ (staggering 1 false).sr.stagger ≠ .ended
      ∧ (busy.bi.receiving = true ∧ sending.bi.tx ≠ .idle)
      ∧ ({ busy with bi := ⟨true, false, .idle, false, none⟩ }.bi.busIdle = true)
      ∧ (Calm sending ∧ sending.slots[(0 : Fin 4)] = .inFlight (alertFrame alert2)
          ∧ (∀ j : Fin 4, j ≠ 0 → ∀ g, sending.slots[j] ≠ .inFlight g)
          ∧ sending.bi.tx = .sending ∧ { sending.bi with tx := .arbitrating }.tx = .arbitrating) :=
  ⟨⟨by decide, by decide, by decide, by decide, by decide, by decide, fun j h => absurd h (Nat.not_lt_zero _)⟩,
    fun i => not_pending _ (by revert i; decide), rfl, by decide, by decide, rfl,
    by decide, by decide, fun j => not_inFlight _ ∘ (by revert j; decide), by decide, rfl⟩

/-- A state that sends the frame of a slot. -/
def sendingSlot (i : Fin 4) (s : State) : State :=
  { s with
    bi := ⟨false, true, .sending, false, frameOfSlot s.sr.address i (.pending (alertFrame alert2))⟩
    slots := setPlace (Vector.replicate 4 .empty) i (.inFlight (alertFrame alert2)) }

theorem sendingSlot_alone (i : Fin 4) (s : State) :
    (sendingSlot i s).bi.tx = .sending ∧ (sendingSlot i s).slots[i] = .inFlight (alertFrame alert2)
      ∧ ∀ j : Fin 4, j ≠ i → ∀ g, (sendingSlot i s).slots[j] ≠ .inFlight g := by
  refine ⟨rfl, ?_, fun j h => not_inFlight _ ?_⟩
  · revert i; show ∀ i : Fin 4, (setPlace (Vector.replicate 4 Slot.empty) i _)[i] = _; decide
  · revert i j
    show ∀ i j : Fin 4, j ≠ i →
      (setPlace (Vector.replicate 4 Slot.empty) i (.inFlight (alertFrame alert2)))[j].isInFlight = false
    decide

theorem witness_FrameSentTellsOwner :
    (∀ i : Fin 4, Calm (sendingSlot i busy) ∧ (sendingSlot i busy).bi.tx = .sending
        ∧ (sendingSlot i busy).slots[i] = .inFlight (alertFrame alert2)
        ∧ ∀ j : Fin 4, j ≠ i → ∀ g, (sendingSlot i busy).slots[j] ≠ .inFlight g)
      ∧ busy.aq.records = [alert2]
      ∧ { busy.aq with records := [alert2, { alert2 with cause := .esd }] }.records
          = alert2 :: { alert2 with cause := .esd } :: []
      ∧ (busy.qq.build = some ⟨[[30, 69, 0]], 1⟩ ∧ [[30, 69, 0]].length ≤ 1
          ∧ [[30, 17, 2], [30, 33, 2], [(30 : Byte), 49, 2]][2]? = some [30, 49, 2])
      ∧ (busy.qq.queries = [query30]
          ∧ [query30, ⟨30, .timer, 3⟩] = query30 :: ⟨30, .timer, 3⟩ :: [])
      ∧ (busy.round.cursor ≤ (2 : ParcelNo).val ∧ busy.parcels[(2 : Fin 8)].published.state ≠ .vacant
          ∧ ∀ q : ParcelNo, busy.round.cursor ≤ q.val → q < 2 → busy.parcels[q].published.state = .vacant)
      ∧ (∀ q : ParcelNo, 3 ≤ q.val → busy.parcels[q].published.state = .vacant)
      ∧ (∀ q : ParcelNo, 8 ≤ q.val → busy.parcels[q].published.state = .vacant)
      ∧ (∀ q : ParcelNo, 0 ≤ q.val → State.reset.parcels[q].published.state = .vacant)
      ∧ busy.round.pending = false ∧ { busy.round with pending := true }.pending = true :=
  ⟨fun i => ⟨⟨rfl, show ∀ j : Fin 4, busy.ct.timers[j].zeroDue = false by decide,
      show busy.sr.stableAt .asserted = false ∧ busy.sr.stableAt .released = false by decide,
      show busy.sr.stagger ≠ .running 0 by decide⟩, sendingSlot_alone i busy⟩,
    by decide, by decide, by decide, by decide, by decide, by decide, by decide,
    by decide, by decide, by decide⟩

theorem witness_QueriesAreQueued :
    let f := fun target kind subject => fr 30 [target, kind, subject]
    let m := decodeQuery (f 0 1 2).payload
    (frameOf (.queryParcel (f 0 1 2)) = some (.query, f 0 1 2) ∧ From .query (f 0 1 2) 30 busy)
      ∧ (decodeQuery (f 1 1 2).payload).target ≠ busy.sr.address.val
      ∧ ((decodeQuery (f 0 0 2).payload).kind = none ∧ (decodeQuery (f 0 7 2).payload).kind = none)
      ∧ (m.target = busy.sr.address.val ∧ m.kind = some .parcel)
      ∧ query30 ∈ busy.qq.queries
      ∧ 4 ≤ [query30, ⟨1, .node, 0⟩, ⟨2, .node, 0⟩, ⟨3, .node, 0⟩].length
      ∧ (⟨30, .parcel, 2⟩ ∉ busy.qq.queries ∧ 1 ≤ busy.qq.queries.length ∧ busy.qq.queries.length ≤ 3)
      ∧ (State.reset.qq.queries = [] ∧ State.reset.slots[(1 : Fin 4)] = .empty) := by decide

theorem witness_AnswersCarryTheirParts :
    WorkWithCurrent busy
      ∧ (answerParts busy ⟨30, .parcel, 2⟩).length = 3
      ∧ (answerParts busy ⟨30, .parcel, 3⟩).length = 1
      ∧ (answerParts busy ⟨30, .tank, 85⟩).map List.length = [16]
      ∧ (answerParts busy ⟨30, .tank, 86⟩).map List.length = [3]
      ∧ (answerParts busy ⟨30, .meter, 160⟩).map List.length = [16, 16]
      ∧ (answerParts busy ⟨30, .meter, 252⟩).map List.length = [3]
      ∧ (answerParts busy ⟨30, .term, 0⟩).map List.length = [16]
      ∧ (answerParts busy ⟨30, .term, 23⟩).map List.length = [3]
      ∧ (answerParts busy ⟨30, .node, 0⟩).map List.length = [16]
      ∧ (answerParts busy ⟨30, .timer, 3⟩).map List.length = [8]
      ∧ (answerParts busy ⟨30, .timer, 4⟩).map List.length = [3]
      ∧ work21.current.getD 0 ≤ 105806999 ∧ work21.opening.getD 0 ≤ 105806999 := by
  refine ⟨?_, ?_, ?_, ?_, ?_, ?_, ?_, ?_, ?_, ?_, ?_, ?_, ?_, ?_⟩ <;> decide

theorem witness_AnswersShowTheRecords :
    TablesSound busy
      ∧ (busy.parcels[(2 : Fin 8)].decl.current = some ⟨8, plan⟩ ∧ (2 : Byte).toNat = (2 : ParcelNo).val)
      ∧ (plan.density < 65536 ∧ plan.vef < 65536 ∧ plan.tolerance < 256 ∧ plan.floor < 65536)
      ∧ (peer5 ∈ busy.peers.filter (fun e => decide (e.parcel = 2)) ∧ peer5.count ≤ 3 ∧ peer5.d.natAbs ≤ 2147483647)
      ∧ ((busy.peers.filter fun e => decide (e.parcel = 3)) = [])
      ∧ (busy.tank? ⟨21, 1⟩ = some tank21 ∧ tank21.work = some work21 ∧ work21.confirm ≤ 2 ∧ (85 : Byte).toNat = 21 * 4 + 1)
      ∧ (busy.meter? ⟨40, 0⟩ = some meter40 ∧ meter40.work = some work40 ∧ MeterSound work40
          ∧ (160 : Byte).toNat = 40 * 4 + 0)
      ∧ (busy.terms[(0 : Fin 24)].term = some term2 ∧ term2.literals.length ≤ 4 ∧ termRec2.decl.current.isSome = true)
      ∧ (busy.aq.records.length ≤ 16 ∧ busy.qq.queries.length ≤ 4)
      ∧ (let t := busy.ct.timers[(3 : Fin 4)];
          1 ≤ t.params.constant ∧ t.params.constant ≤ 256 ∧ t.count ≤ 256 ∧ busy.ct.staleLimit ≤ 15) := by
  refine ⟨?_, ?_, ?_, ?_, ?_, ?_, ?_, ?_, ?_, ?_⟩ <;> decide

/-! ### Witnesses of the invariants: a node under way meets each, and takes a step -/

/-- The busy node in the middle of a pass with its alert on the bus and a tick waiting. -/
def underWay : State :=
  { atPass .marks sending with pending := [.markApplication, .referenceTick] }

theorem witness_StepsKeepBusAndTimers :
    (∃ t, step underWay = .next t)
      ∧ LineFollows underWay ∧ OneFrameOnBus underWay ∧ TimersSound underWay ∧ AgesSound underWay :=
  ⟨⟨_, rfl⟩, by decide, by decide, by decide, by decide⟩

theorem witness_StepsKeepQueues :
    (∃ t, step underWay = .next t)
      ∧ AlertQueueSound underWay ∧ QueryQueueSound underWay ∧ RoundSound underWay :=
  ⟨⟨_, rfl⟩, by decide, by decide, by decide⟩

theorem witness_StepsKeepTables :
    (∃ t, step underWay = .next t)
      ∧ TablesSound underWay ∧ ValvesNamed underWay ∧ RevisionsForward underWay ∧ WorkWithCurrent underWay :=
  ⟨⟨_, rfl⟩, by decide, by decide, by decide, by decide⟩

theorem witness_StepsKeepRecords :
    (∃ t, step underWay = .next t)
      ∧ EngineSound underWay ∧ ParcelsSound underWay ∧ MetersSound underWay ∧ GaugesSound underWay :=
  ⟨⟨_, rfl⟩, by decide, by decide, by decide, by decide⟩

theorem underWay_volumes : VolumesSound underWay :=
  ⟨by decide, by decide, by decide, by decide, by decide, by decide, by decide, by decide⟩

theorem witness_StepsKeepOpeningVolumes :
    (∃ t, step underWay = .next t)
      ∧ VolumesSound underWay
      ∧ tank21 ∈ underWay.tanks ∧ tank21.work = some work21 ∧ work21.parcel = some 2
      ∧ underWay.parcels[(2 : Fin 8)].state = .active :=
  ⟨⟨_, rfl⟩, underWay_volumes, by decide, by decide, by decide, by decide⟩

theorem witness_ResetsMeetInvariants :
    (∃ t, exec (.powerOnReset ⟨.high, .low, .openPin, .high, .low⟩ .asserted) underWay = .next t)
      ∧ ∃ t, exec (.resetN .asserted) underWay = .next t :=
  ⟨⟨_, rfl⟩, ⟨_, rfl⟩⟩

end Sys2Proof.Tests
end

section
/-! SUPPORT. What the operations of the arithmetic unit answer (Chapter 1): the clamps and the saturation as
formulas with their reports, the correction factor and the net and standard volumes with their bounds, the meter
product and its split, the rounding of the adjusted ship figure, and the contributions of tanks. -/

namespace Sys2Proof.Laws

open Machine Safety

/-! ### Saturation (R15, R21) -/

theorem saturate_value (x : Int) : (saturate x).value = max (-2147483647) (min 2147483647 x) := by
  rw [saturate, satLimit]
  split_ifs with above below
  · show (2147483647 : Int) = _
    omega
  · show (-2147483647 : Int) = _
    omega
  · show x = _
    omega

theorem saturate_limited (x : Int) : (saturate x).limited = true ↔ 2147483647 < x.natAbs := by
  rw [saturate, satLimit]
  split_ifs with above below
  · exact iff_of_true rfl (by omega)
  · exact iff_of_true rfl (by omega)
  · exact iff_of_false nofun (by omega)

theorem saturate_natAbs_le (x : Int) : (saturate x).value.natAbs ≤ 2147483647 := by
  rw [saturate_value]
  omega

/-! ### The clamps of temperature and volume (R4, R8) -/

theorem clampTemp_value (t : Int) :
    (clampTemp t).value = if t < -2000 then -2000 else if 9000 < t then 9000 else t := by
  rw [clampTemp]
  split_ifs <;> rfl

theorem clampTemp_limited (t : Int) : (clampTemp t).limited = true ↔ t < -2000 ∨ 9000 < t := by
  rw [clampTemp]
  split_ifs with below above
  · exact iff_of_true rfl (.inl below)
  · exact iff_of_true rfl (.inr above)
  · exact iff_of_false nofun (by omega)

theorem clampTemp_range (t : Int) : -2000 ≤ (clampTemp t).value ∧ (clampTemp t).value ≤ 9000 := by
  rw [clampTemp_value]
  split_ifs <;> omega

theorem clampVolume_value (v : Nat) : (clampVolume v).value = min v 99999999 := by
  rw [clampVolume]
  split_ifs with above
  · exact (min_eq_right above.le).symm
  · exact (min_eq_left (not_lt.1 above)).symm

theorem clampVolume_limited (v : Nat) : (clampVolume v).limited = true ↔ 99999999 < v := by
  rw [clampVolume]
  split_ifs with above
  · exact iff_of_true rfl above
  · exact iff_of_false nofun above

/-! ### The correction factor (R5 to R7) -/

section CorrectionFactor

variable {alpha : Nat} {delta : Int} (hα : alpha ≤ 1689061) (hlo : -3500 ≤ delta) (hhi : delta ≤ 7500)
include hα hlo hhi

theorem tempTerm_range : -5911713500 ≤ tempTerm alpha delta ∧ tempTerm alpha delta ≤ 12667957500 := by
  have hα' : (alpha : Int) ≤ 1689061 := by exact_mod_cast hα
  have hcold : (alpha : Int) * -3500 ≤ alpha * delta := mul_le_mul_of_nonneg_left hlo alpha.cast_nonneg
  have hhot : (alpha : Int) * delta ≤ alpha * 7500 := mul_le_mul_of_nonneg_left hhi alpha.cast_nonneg
  rw [tempTerm]
  omega

theorem secondOrder_range :
    0 ≤ secondOrder (tempTerm alpha delta) ∧ secondOrder (tempTerm alpha delta) ≤ 481431441 := by
  obtain ⟨hcold, hhot⟩ := tempTerm_range hα hlo hhi
  have hnonneg := mul_self_nonneg (tempTerm alpha delta)
  have hsquare : tempTerm alpha delta * tempTerm alpha delta ≤ 12667957500 * 12667957500 :=
    abs_le_iff_mul_self_le.1 (by rw [abs_le, abs_of_pos (by decide)]; omega)
  rw [secondOrder]
  omega

end CorrectionFactor

/-- The two terms subtracted in CTL_raw form one quotient, so that the truncation of Q does not stand in the way of
its monotonicity. -/
theorem ctlRaw_eq_quotient (alpha : Nat) (delta : Int) :
    ctlRaw alpha delta
      = 10 ^ 11 - (tempTerm alpha delta * 10 ^ 12 + 3 * (tempTerm alpha delta * tempTerm alpha delta)) / 10 ^ 12 := by
  rw [ctlRaw, secondOrder, Int.add_comm (_ * _), Int.add_mul_ediv_right _ _ (by decide)]
  omega

/-- X × 10^12 + 3 X² rises with X above its vertex, which lies well below the coldest X. -/
theorem quadratic_mono {a b : Int} (ha : -100000000000 ≤ a) (hab : a ≤ b) :
    a * 10 ^ 12 + 3 * (a * a) ≤ b * 10 ^ 12 + 3 * (b * b) := by
  have hslope : 0 ≤ (b - a) * (10 ^ 12 + 3 * (a + b)) := mul_nonneg (by omega) (by omega)
  linarith

theorem ctlRaw_antitone {alpha beta : Nat} {delta epsilon : Int}
    (hx : -100000000000 ≤ tempTerm alpha delta) (h : tempTerm alpha delta ≤ tempTerm beta epsilon) :
    ctlRaw beta epsilon ≤ ctlRaw alpha delta := by
  rw [ctlRaw_eq_quotient, ctlRaw_eq_quotient]
  exact Int.sub_le_sub_left (Int.ediv_le_ediv (by decide) (quadratic_mono hx h)) _

theorem ctlRaw_hottest : ctlRaw 1689061 7500 = 86850611059 := by decide

theorem ctlRaw_coldest : ctlRaw 1689061 (-3500) = 105806868431 := by decide

/-- CTL_raw falls as X rises, so its ends are those of X: the largest α at +90.00 °C and at −20.00 °C (R5). -/
theorem ctlRaw_range {alpha : Nat} {delta : Int} (hα : alpha ≤ 1689061) (hlo : -3500 ≤ delta)
    (hhi : delta ≤ 7500) : 86850611059 ≤ ctlRaw alpha delta ∧ ctlRaw alpha delta ≤ 105806868431 := by
  obtain ⟨hcold, hhot⟩ := tempTerm_range hα hlo hhi
  have hhottest : tempTerm 1689061 7500 = 12667957500 := by decide
  have hcoldest : tempTerm 1689061 (-3500) = -5911713500 := by decide
  rw [← ctlRaw_hottest, ← ctlRaw_coldest]
  exact ⟨ctlRaw_antitone (by omega) (by omega), ctlRaw_antitone (by omega) (by omega)⟩

theorem ctlRounded_eq (raw : Int) :
    (ctlRounded raw : Int)
      = if (raw + 500000) / 1000000 < 90000 then 90000
        else if 110000 < (raw + 500000) / 1000000 then 110000 else (raw + 500000) / 1000000 := by
  rw [ctlRounded]
  split_ifs <;> omega

theorem ctlRounded_range {raw : Int} (h : raw ≤ 105806868431) :
    90000 ≤ ctlRounded raw ∧ ctlRounded raw ≤ 105807 := by
  rw [ctlRounded]
  omega

/-- The difference from 15.00 °C that a reported temperature gives (R4). -/
theorem clampTemp_delta_range (t : Int) :
    -3500 ≤ (clampTemp t).value - 1500 ∧ (clampTemp t).value - 1500 ≤ 7500 := by
  have := clampTemp_range t
  omega

theorem ctl5_range {alpha : Nat} (hα : alpha ≤ 1689061) (temp : Int) :
    90000 ≤ (ctl5 alpha temp).value ∧ (ctl5 alpha temp).value ≤ 105807 := by
  obtain ⟨hlo, hhi⟩ := clampTemp_delta_range temp
  exact ctlRounded_range (ctlRaw_range hα hlo hhi).2

/-- At 15.00 °C nothing is corrected, whatever α (R4). -/
theorem ctl5_standard (alpha : Nat) : (ctl5 alpha 1500).value = 100000 := by
  have hΔ : (clampTemp 1500).value - 1500 = 0 := by decide
  have hx : tempTerm alpha 0 = 0 := mul_zero _
  show ctlRounded (ctlRaw alpha ((clampTemp 1500).value - 1500)) = 100000
  rw [hΔ, ctlRaw, hx]
  decide

/-! ### Tank volumes (R9, R10) -/

theorem netVolume_eq (v freeWater : Nat) :
    netVolume v freeWater = if freeWater ≤ v then v - freeWater else 0 := by
  rw [netVolume]
  split_ifs <;> omega

theorem netVolume_le (v freeWater : Nat) : netVolume v freeWater ≤ v := Nat.sub_le _ _

theorem grossStandard_zero (ctl : Nat) : grossStandard 0 ctl = 0 := by simp [grossStandard]

theorem grossStandard_le {net ctl : Nat} (hnet : net ≤ 99999999) (hctl : ctl ≤ 105807) :
    grossStandard net ctl ≤ 105806999 := by
  have hproduct : net * ctl ≤ 99999999 * 105807 := Nat.mul_le_mul hnet hctl
  rw [grossStandard]
  omega

theorem standardVolume_le {alpha : Nat} (hα : alpha ≤ 1689061) (r : GaugeReading) :
    standardVolume alpha r ≤ 105806999 := by
  refine grossStandard_le ((netVolume_le _ _).trans ?_) (ctl5_range hα r.temp).2
  rw [clampVolume_value]
  exact min_le_right _ _

@[simp] theorem computed_current (w : TankWork) (alpha : Nat) (r : GaugeReading) :
    (w.computed alpha r).current = some (standardVolume alpha r) := rfl

@[simp] theorem opened_opening (w : TankWork) : w.opened.opening = w.current := rfl

/-! ### Meter increments (R12 to R14) -/

/-- The increment and the new residue hold the whole product between them (R12). -/
theorem meterIncrement_exact (delta factor ctl residue : Nat) :
    (meterIncrement delta factor ctl residue).1 * 10000000000 + (meterIncrement delta factor ctl residue).2
      = residue + delta * factor * ctl := by
  rw [Nat.add_comm residue]
  exact Nat.div_add_mod' _ _

theorem meterIncrement_residue_lt (delta factor ctl residue : Nat) :
    (meterIncrement delta factor ctl residue).2 < 10000000000 := Nat.mod_lt _ (by decide)

theorem meterProduct_zero (factor ctl residue : Nat) : meterProduct 0 factor ctl residue = residue := by
  simp [meterProduct]

theorem meterIncrement_zero {residue : Nat} (factor ctl : Nat) (h : residue < 10000000000) :
    meterIncrement 0 factor ctl residue = (0, residue) := by
  have hlitre : residue < 10 ^ 10 := h
  rw [meterIncrement, meterProduct_zero, Nat.div_eq_of_lt hlitre, Nat.mod_eq_of_lt hlitre]

/-- The residue makes a run of increments lossless (R13). -/
theorem meterRun_exact (residue : Nat) (run : List (Nat × Nat × Nat)) :
    (meterRun residue run).1 * 10000000000 + (meterRun residue run).2
      = residue + (run.map fun x => x.1 * x.2.1 * x.2.2).sum := by
  induction run generalizing residue with
  | nil => simp [meterRun]
  | cons first rest ih =>
    obtain ⟨delta, factor, ctl⟩ := first
    have hfirst := meterIncrement_exact delta factor ctl residue
    have hrest := ih (meterIncrement delta factor ctl residue).2
    simp only [meterRun, List.map_cons, List.sum_cons]
    rw [add_mul, add_assoc, hrest, ← add_assoc, hfirst, add_assoc]

theorem residueIn_same {w : MeterWork} {p : ParcelNo} (h : w.lastCredited = some p) :
    residueIn w p = w.residue := if_pos h

theorem residueIn_other {w : MeterWork} {p : ParcelNo} (h : w.lastCredited ≠ some p) : residueIn w p = 0 :=
  if_neg h

theorem meterProduct_le {delta factor ctl residue : Nat} (hdelta : delta ≤ 8388608) (hfactor : factor ≤ 105000)
    (hctl : ctl ≤ 105807) (hresidue : residue ≤ 9999999999) :
    meterProduct delta factor ctl residue ≤ 93195221898879999 :=
  Nat.add_le_add (Nat.mul_le_mul (Nat.mul_le_mul hdelta hfactor) hctl) hresidue

/-! ### The adjusted ship figure and the band (R20, R22) -/

theorem vefRounded_neg (s : Int) (vef : Nat) : vefRounded (-s) vef = -vefRounded s vef := by
  rw [vefRounded, vefRounded, Int.sign_neg, Int.natAbs_neg, neg_mul]

theorem vefRounded_of_nonneg {s : Int} {vef : Nat} (hs : 0 ≤ s) (hvef : 0 < vef) :
    vefRounded s vef = (2 * s * 10000 + vef) / (2 * vef) := by
  obtain rfl | hpos := hs.eq_or_lt
  · have hhalf : (vef : Int) / (2 * vef) = 0 := Int.ediv_eq_zero_of_lt (by omega) (by omega)
    simp [vefRounded, hhalf]
  · have habs : (s.natAbs : Int) = s := Int.natAbs_of_nonneg hs
    rw [vefRounded, Int.sign_eq_one_of_pos hpos, one_mul]
    push_cast
    rw [abs_of_pos hpos]

/-- The ends of the band over the declared ranges of tolerance and floor (R22). -/
theorem toleranceBand_range {tolerance floor : Nat} {sAdj h : Int} (htol : tolerance ≤ 200) (hfloor : 1 ≤ floor)
    (hfloor' : floor ≤ 65535) (hs : sAdj.natAbs ≤ 2147483647) (hh : h.natAbs ≤ 2147483647) :
    100 ≤ toleranceBand tolerance floor sAdj h ∧ toleranceBand tolerance floor sAdj h ≤ 42949673 := by
  have hshare : tolerance * max sAdj.natAbs h.natAbs ≤ 200 * 2147483647 :=
    Nat.mul_le_mul htol (max_le hs hh)
  rw [toleranceBand]
  omega

/-- A declaration whose vessel experience factor is out of range is refused (R20, R86). -/
theorem parcelRefusal_of_vef {d : ParcelDecl} (r : ParcelRec) (h : d.vef < 9800 ∨ 10200 < d.vef) :
    parcelRefusal r d = some .range := by
  have hrange : parcelInRange d = false := by
    obtain low | high := h
    · simp [parcelInRange, Nat.not_le.2 low]
    · simp [parcelInRange, Nat.not_le.2 high]
  simp [parcelRefusal, hrange]

/-! ### The figures of an evaluation (R18, R24) -/

section Evaluate

variable (decl : ParcelDecl) (shipSum shoreSum meterTotal : Int) (indication : Bool)

theorem evaluate_h :
    (evaluate decl shipSum shoreSum meterTotal indication).figures.h
      = if decl.basis = .tank then (saturate shoreSum).value else meterTotal := by
  rw [evaluate]
  cases decl.basis <;> rfl

/-- SATURATED gathers the indication and the four limits that act in the evaluation itself (R19). -/
theorem evaluate_saturated :
    let f := (evaluate decl shipSum shoreSum meterTotal indication).figures
    f.saturated = true ↔ indication = true ∨ 2147483647 < shipSum.natAbs ∨ 2147483647 < shoreSum.natAbs
      ∨ 2147483647 < (vefRounded f.s decl.vef).natAbs ∨ 2147483647 < (f.sAdj - f.h).natAbs := by
  simp only [evaluate, Bool.or_eq_true, saturate_limited, or_assoc]

theorem evaluate_h_natAbs_le (hm : meterTotal.natAbs ≤ 2147483647) :
    (evaluate decl shipSum shoreSum meterTotal indication).figures.h.natAbs ≤ 2147483647 := by
  rw [evaluate_h]
  split_ifs
  · exact saturate_natAbs_le shoreSum
  · exact hm

end Evaluate

/-! ### Contributions of tanks and the sums over a side (R15, R16) -/

theorem contribution_of_both {w : TankWork} {c o : Nat} (hc : w.current = some c) (ho : w.opening = some o)
    (dir : Direction) :
    contribution dir w.side w
      = if dir = .discharge ↔ w.side = .ship then (o : Int) - c else (c : Int) - o := by
  simp only [contribution, hc, ho, if_true]
  cases dir <;> cases w.side <;> rfl

theorem contribution_other_side {w : TankWork} {side : Side} (h : w.side ≠ side) (dir : Direction) :
    contribution dir side w = 0 := by
  rw [contribution]
  split
  · exact if_neg h
  · rfl

theorem contribution_unopened {w : TankWork} (h : w.opening = none) (dir : Direction) (side : Side) :
    contribution dir side w = 0 := by
  simp only [contribution, h]

theorem assignedTanks_perm {s : State} {l : List TankRec} (h : l.Perm s.tanks) (p : ParcelNo) :
    (assignedTanks { s with tanks := l } p).Perm (assignedTanks s p) := h.filterMap _

theorem sideSum_perm {s : State} {l : List TankRec} (h : l.Perm s.tanks) (p : ParcelNo) (dir : Direction)
    (side : Side) : sideSum { s with tanks := l } p dir side = sideSum s p dir side :=
  ((assignedTanks_perm h p).map _).sum_eq

end Sys2Proof.Laws
end

section
/-! PROOFS. The statements about the quantity arithmetic of Chapter 1. -/

namespace Sys2Proof.Proofs

open Machine Safety Laws

/-- Settles O4: every range is that of the temperature term, in which CTL_raw falls. -/
theorem correctionFactor : Obligations.CorrectionFactor := by
  refine ⟨?_, ctlRaw_hottest, ctlRaw_coldest⟩
  intro alpha temp _ hα delta x q raw rounded
  obtain ⟨hlo, hhi⟩ := clampTemp_delta_range temp
  have hvalue : (ctl5 alpha temp).value = ctlRounded raw := by
    rw [ctl5, clampTemp_value]
    rfl
  rw [clampTemp_value] at hlo hhi
  obtain ⟨hxlo, hxhi⟩ := tempTerm_range hα hlo hhi
  obtain ⟨hqlo, hqhi⟩ := secondOrder_range hα hlo hhi
  obtain ⟨hrawlo, hrawhi⟩ := ctlRaw_range hα hlo hhi
  obtain ⟨hctllo, hctlhi⟩ := ctl5_range hα temp
  exact ⟨rfl, rfl, rfl, hxlo, hxhi, hqlo, hqhi, hrawlo, hrawhi, by rw [hvalue, ctlRounded_eq], hctllo, hctlhi,
    clampTemp_limited temp, fun h => h ▸ ctl5_standard alpha⟩

/-- Settles O5: the clamp of the volume bounds the net volume, and the bound of CTL5 the standard volume. -/
theorem tankStandardVolume : Obligations.TankStandardVolume := by
  intro alpha r w _ hα v net gsv
  have hnet : netVolume v r.freeWater = net := netVolume_eq v r.freeWater
  have hgsv : standardVolume alpha r = gsv := by
    rw [standardVolume, clampVolume_value, hnet]
    rfl
  refine ⟨clampVolume_value _, clampVolume_limited _, hnet, ?_, hgsv, hgsv ▸ standardVolume_le hα r,
    ?_, ?_, ?_⟩
  · exact hnet ▸ (netVolume_le v r.freeWater).trans (min_le_right _ _)
  · intro h
    show grossStandard net _ = 0
    rw [h, grossStandard_zero]
  · rw [computed_current, hgsv]
  · rw [opened_opening, computed_current, hgsv]

/-- Settles O6, the run of increments by induction on it; the bounds are those of the meter product. -/
theorem meterIncrementsLossless : Obligations.MeterIncrementsLossless := by
  refine ⟨meterRun_exact, fun factor ctl residue h => meterIncrement_zero factor ctl h, ?_, ?_, ?_⟩
  · intro w p ⟨_, _, hresidue, _⟩
    exact ⟨residueIn_same, fun h => ⟨residueIn_other h, hresidue⟩⟩
  · intro delta factor ctl residue hdelta _ hfactor _ hctl hresidue
    have hproduct := meterProduct_le hdelta hfactor hctl hresidue
    exact ⟨hproduct, Nat.div_le_div_right hproduct, meterIncrement_residue_lt delta factor ctl residue⟩
  · intro residue hresidue
    have hproduct : meterProduct 1 95000 90000 residue = 8550000000 + residue := rfl
    refine ⟨hproduct, ?_⟩
    rw [meterIncrement, hproduct]
    split_ifs <;> omega

/-- Settles O7: each figure is the saturation of one formed from the figures before it. -/
theorem figuresOfAParcel : Obligations.FiguresOfAParcel := by
  refine ⟨?_, ?_, fun r d h => parcelRefusal_of_vef r h⟩
  · intro decl shipSum shoreSum meterTotal indication e f adjusted
    refine ⟨rfl, evaluate_h .., saturate_value _, saturate_value _, saturate_natAbs_le _, evaluate_saturated ..,
      rfl, decide_eq_true_iff, ?_⟩
    intro _ htol hfloor hfloor' hmeter
    exact toleranceBand_range htol hfloor hfloor' (saturate_natAbs_le _)
      (evaluate_h_natAbs_le decl shipSum shoreSum meterTotal indication hmeter)
  · intro s vef hvef _
    exact ⟨vefRounded_neg s vef, fun hs => vefRounded_of_nonneg hs (by omega)⟩

/-- Settles O8: the sums of the two sides are saturated once, and a sum does not see the order of its terms. -/
theorem sidesSumTheirTanks : Obligations.SidesSumTheirTanks := by
  refine ⟨?_, ?_, ?_, fun s p dir side l h => sideSum_perm h p dir side⟩
  · rintro dir _ w rfl c o hc ho
    rw [contribution_of_both hc ho]
    refine ⟨rfl, fun hcle hole => ?_⟩
    split_ifs <;> omega
  · rintro dir side w (hside | hopening)
    · exact contribution_other_side hside dir
    · exact contribution_unopened hopening dir side
  · intro s p d sum f
    refine ⟨saturate_value _, saturate_value _, fun h => (evaluate_saturated ..).2 ?_⟩
    obtain hship | hshore := h
    · exact .inr (.inl hship)
    · exact .inr (.inr (.inl hshore))

end Sys2Proof.Proofs
end

section
/-! SUPPORT. What a GAUGE frame does to a tank record (Table 3-1, R46 to R51): the sequence test, then the four
outcomes of a reading taken in, and the table entry the record is put back into. -/

namespace Sys2Proof.Laws

open Machine Safety

/-! ### A record put back unchanged -/

/-- In a table in key order a record put back where it was found changes nothing. -/
theorem putRec_found {α : Type} {ord : α → Nat} {k : Nat} {r : α} {l : List α} (hl : keysRising ord l = true)
    (h : findRec ord k l = some r) : putRec ord r l = l := by
  rw [keysRising_iff] at hl
  induction l with
  | nil => simp [findRec] at h
  | cons x xs ih =>
    obtain ⟨hx, hxs⟩ := List.pairwise_cons.1 hl
    by_cases hk : ord x = k
    · obtain rfl : x = r := by simpa [findRec, hk] using h
      simp [putRec]
    · have htail : findRec ord k xs = some r := by simpa [findRec, hk] using h
      have hlt : ord x < ord r := hx r (findRec_mem htail)
      simp [putRec, ih hxs htail, hlt.not_gt, hlt.ne']

/-- The same of the tank table. -/
theorem putTank_found {s : State} {k : Key} {r : TankRec} (hs : keysRising tankOrd s.tanks = true)
    (h : s.tank? k = some r) : s.putTank r = s := by
  rw [State.putTank, putRec_found hs h]

/-! ### The sequence test (R47) -/

section GaugeRecord

variable {w : TankWork} {m : GaugeMsg}

theorem gauge_not_newer (h : seqTaken w.lastSeq m.seq = false) : w.gauge m = w := by
  simp [TankWork.gauge, h]

theorem gauge_newer (h : seqTaken w.lastSeq m.seq = true) :
    w.gauge m = TankWork.takeReading { w with lastSeq := some m.seq } m.valid m.reading := by
  simp [TankWork.gauge, h]

end GaugeRecord

/-! ### A reading taken in (R48 to R51) -/

section Reading

variable {w : TankWork} {g last : GaugeReading}

/-- The step test measures the magnitude of the difference (R49). -/
theorem stepOf_eq_natAbs (a b : Nat) : stepOf a b = ((a : Int) - b).natAbs := by
  unfold stepOf
  omega

/-- An invalid reading is not accepted (R48). -/
theorem takeReading_invalid : w.takeReading false g = { w with gaugeInvalid := true, confirm := 0 } := rfl

/-- A first reading is not tested for a step (R49). -/
theorem takeReading_first (h : w.reading = none) : w.takeReading true g = w.accept g := by
  simp [TankWork.takeReading, h]

/-- A step within the limit is accepted (R49). -/
theorem takeReading_near (h : w.reading = some last) (hstep : ((g.volume : Int) - last.volume).natAbs ≤ 50000) :
    w.takeReading true g = w.accept g := by
  rw [← stepOf_eq_natAbs] at hstep
  simp [TankWork.takeReading, h, stepLimit, hstep]

/-- The first two stepped readings in a row are held (R49). -/
theorem takeReading_held (h : w.reading = some last)
    (hstep : 50000 < ((g.volume : Int) - last.volume).natAbs) (hcount : w.confirm ≤ 1) :
    w.takeReading true g = { w with confirm := w.confirm + 1 } := by
  rw [← stepOf_eq_natAbs] at hstep
  simp [TankWork.takeReading, h, stepLimit, hstep.not_ge, Nat.lt_succ_of_le hcount]

/-- The third stepped reading in a row is accepted and marked (R50). -/
theorem takeReading_third (h : w.reading = some last)
    (hstep : 50000 < ((g.volume : Int) - last.volume).natAbs) (hcount : w.confirm = 2) :
    w.takeReading true g = { w.accept g with rebased := true } := by
  rw [← stepOf_eq_natAbs] at hstep
  simp [TankWork.takeReading, h, stepLimit, hstep.not_ge, hcount]

end Reading

/-! ### The command (R46) -/

section GaugeCommand

variable {f : Frame} {a : Station} {s : State} {r : TankRec} {w : TankWork}

/-- A GAUGE frame of another station reaches the tank table. -/
theorem exec_gauge_from (hf : From .gauge f a s) :
    exec (.gauge f) s = .next (takeGauge f.payload a (heardFrom a s)) := by
  obtain ⟨_, _, _, _, hcalm⟩ := id hf
  show Host.Outcome.next (receive .gauge f (takeGauge f.payload) (settle s)) = _
  rw [settle_calm hcalm, receive_from _ hf]

/-- A frame whose key has no record is ignored. -/
theorem exec_gauge_absent (hf : From .gauge f a s) (h : s.tank? ⟨a, (decodeGauge f.payload).index⟩ = none) :
    exec (.gauge f) s = .next (heardFrom a s) := by
  have hh : (heardFrom a s).tank? ⟨a, (decodeGauge f.payload).index⟩ = none := h
  simp [exec_gauge_from hf, takeGauge, hh]

/-- A frame whose record is staged-only is ignored. -/
theorem exec_gauge_staged_only (hf : From .gauge f a s)
    (h : s.tank? ⟨a, (decodeGauge f.payload).index⟩ = some r) (hw : r.work = none) :
    exec (.gauge f) s = .next (heardFrom a s) := by
  have hh : (heardFrom a s).tank? ⟨a, (decodeGauge f.payload).index⟩ = some r := h
  simp [exec_gauge_from hf, takeGauge, hh, hw]

/-- A frame for a declared record puts the record back into the table, with what the frame made of it. -/
theorem exec_gauge_declared (hf : From .gauge f a s)
    (h : s.tank? ⟨a, (decodeGauge f.payload).index⟩ = some r) (hw : r.work = some w) :
    exec (.gauge f) s
      = .next ((heardFrom a s).putTank { r with work := some (w.gauge (decodeGauge f.payload)) }) := by
  have hh : (heardFrom a s).tank? ⟨a, (decodeGauge f.payload).index⟩ = some r := h
  simp [exec_gauge_from hf, takeGauge, hh, hw]

/-- A frame ignored for its sequence puts the record back as it was. -/
theorem exec_gauge_not_newer (hf : From .gauge f a s)
    (h : s.tank? ⟨a, (decodeGauge f.payload).index⟩ = some r) (hw : r.work = some w)
    (hseq : seqTaken w.lastSeq (decodeGauge f.payload).seq = false) :
    exec (.gauge f) s = .next ((heardFrom a s).putTank r) := by
  rw [exec_gauge_declared hf h hw, gauge_not_newer hseq, ← hw]

/-- A frame with a sequence taken puts back what its reading makes of the record. -/
theorem exec_gauge_newer {valid : Bool} {read : TankWork} (hf : From .gauge f a s)
    (h : s.tank? ⟨a, (decodeGauge f.payload).index⟩ = some r) (hw : r.work = some w)
    (hseq : seqTaken w.lastSeq (decodeGauge f.payload).seq = true) (hvalid : (decodeGauge f.payload).valid = valid)
    (hread : TankWork.takeReading { w with lastSeq := some (decodeGauge f.payload).seq } valid
      (decodeGauge f.payload).reading = read) :
    exec (.gauge f) s = .next ((heardFrom a s).putTank { r with work := some read }) := by
  rw [exec_gauge_declared hf h hw, gauge_newer hseq, hvalid, hread]

end GaugeCommand

end Sys2Proof.Laws
end

section
/-! PROOFS. The statement about GAUGE frames of Chapter 3. It fails in states whose tank table is out of key
order, and holds in all others. -/

namespace Sys2Proof.Proofs

open Machine Safety Laws

/-- What O15 says of one frame, station and state. -/
def GaugeRows (f : Frame) (a : Station) (s : State) : Prop :=
  let m := decodeGauge f.payload
  let h := heardFrom a s
  (s.tank? ⟨a, m.index⟩ = none → exec (.gauge f) s = .next h)
    ∧ ∀ r, s.tank? ⟨a, m.index⟩ = some r →
      (r.work = none → exec (.gauge f) s = .next h)
      ∧ ∀ w, r.work = some w →
        let taken := { w with lastSeq := some m.seq }
        let accepted := { taken with reading := some m.reading, gaugeInvalid := false, confirm := 0 }
        (seqTaken w.lastSeq m.seq = false → exec (.gauge f) s = .next h)
        ∧ (seqTaken w.lastSeq m.seq = true → m.valid = false →
            exec (.gauge f) s = .next (h.putTank
              { r with work := some { taken with gaugeInvalid := true, confirm := 0 } }))
        ∧ (seqTaken w.lastSeq m.seq = true → m.valid = true → w.reading = none →
            exec (.gauge f) s = .next (h.putTank { r with work := some accepted }))
        ∧ ∀ last, seqTaken w.lastSeq m.seq = true → m.valid = true → w.reading = some last →
            let step := ((m.reading.volume : Int) - last.volume).natAbs
            (step ≤ 50000 → exec (.gauge f) s = .next (h.putTank { r with work := some accepted }))
            ∧ (50000 < step → w.confirm ≤ 1 →
                exec (.gauge f) s = .next (h.putTank
                  { r with work := some { taken with confirm := w.confirm + 1 } }))
            ∧ (50000 < step → w.confirm = 2 →
                exec (.gauge f) s = .next (h.putTank
                  { r with work := some { accepted with rebased := true } }))

theorem gaugeFrameOutcomes_iff :
    Obligations.GaugeFrameOutcomes ↔ ∀ f a s, From .gauge f a s → GaugeRows f a s := Iff.rfl

/-- Table 3-1 holds of every tank table in key order, the order that `TablesSound` demands (R40, log 24): there a
record put back unchanged leaves the table as it was. Only the row of the ignored sequence needs the order. -/
theorem gaugeRows_of_keysRising {f : Frame} {a : Station} {s : State} (hf : From .gauge f a s)
    (hs : keysRising tankOrd s.tanks = true) : GaugeRows f a s := by
  refine ⟨exec_gauge_absent hf, fun r hr => ⟨exec_gauge_staged_only hf hr, fun w hw => ?_⟩⟩
  refine ⟨fun hseq => ?_, fun hseq hvalid => ?_, fun hseq hvalid hnone => ?_, fun last hseq hvalid hlast =>
    ⟨fun hstep => ?_, fun hstep hcount => ?_, fun hstep hcount => ?_⟩⟩
  · have hsame : (heardFrom a s).putTank r = heardFrom a s := putTank_found hs hr
    rw [exec_gauge_not_newer hf hr hw hseq, hsame]
  · exact exec_gauge_newer hf hr hw hseq hvalid takeReading_invalid
  · exact exec_gauge_newer hf hr hw hseq hvalid (takeReading_first hnone)
  · exact exec_gauge_newer hf hr hw hseq hvalid (takeReading_near hlast hstep)
  · exact exec_gauge_newer hf hr hw hseq hvalid (takeReading_held hlast hstep hcount)
  · exact exec_gauge_newer hf hr hw hseq hvalid (takeReading_third hlast hstep hcount)

/-! ### The counterexample -/

/-- Tank (21, `i`), declared and assigned to no parcel, with last sequence 40. -/
def gaugedTank (i : Fin 4) : TankRec :=
  { key := ⟨21, i⟩
    decl := ⟨some ⟨9, ⟨false, 0, 15⟩⟩, none, none⟩
    work := some ⟨.ship, none, some 40, some ⟨12480350, 2150, 3840⟩, 0, false, false, false, false, none, none⟩ }

/-- A node after reset that receives a frame and holds the given tanks. -/
def receivingWith (tanks : List TankRec) : State :=
  { State.reset with
    bi := { State.reset.bi with busIdle := false, receiving := true }
    tanks := tanks }

/-- A repeat of the last GAUGE frame of tank (21, 1), sequence 40. -/
def repeatedGauge : Frame := ⟨2, 21, [0x81, 40, 0, 0, 0, 0, 0, 0, 0, 0, 0]⟩

theorem from_repeatedGauge (tanks : List TankRec) : From .gauge repeatedGauge 21 (receivingWith tanks) := by
  have hempty : From .gauge repeatedGauge 21 (receivingWith []) := by decide
  exact hempty

/-- The premises of `gaugeRows_of_keysRising` met: the two tanks in key order. -/
theorem gaugeRows_in_order : GaugeRows repeatedGauge 21 (receivingWith [gaugedTank 1, gaugedTank 2]) :=
  gaugeRows_of_keysRising (from_repeatedGauge _) (by decide)

/-- The two tanks out of key order: the record of the ignored frame is put in a second time. -/
theorem exec_gauge_out_of_order :
    exec (.gauge repeatedGauge) (receivingWith [gaugedTank 2, gaugedTank 1])
      = .next { heardFrom 21 (receivingWith [gaugedTank 2, gaugedTank 1]) with
          tanks := [gaugedTank 1, gaugedTank 2, gaugedTank 1] } :=
  exec_gauge_not_newer (from_repeatedGauge _) (r := gaugedTank 1) (by decide) rfl (by decide)

/-- Refutes O15: the statement is made for every state, those whose tank table is out of key order among them. There
a GAUGE frame ignored for its sequence makes the table hold its record twice. -/
theorem not_gaugeFrameOutcomes : ¬ Obligations.GaugeFrameOutcomes := by
  rw [gaugeFrameOutcomes_iff]
  intro hrows
  obtain ⟨_, hheld⟩ := hrows repeatedGauge 21 _ (from_repeatedGauge [gaugedTank 2, gaugedTank 1])
  obtain ⟨_, hdeclared⟩ := hheld (gaugedTank 1) (by decide)
  obtain ⟨hignored, _⟩ := hdeclared _ rfl
  have hnext := exec_gauge_out_of_order.symm.trans (hignored (by decide))
  have htanks := congrArg (fun t => t.tanks.length) (Host.Outcome.next.inj hnext)
  exact absurd htanks (by decide)

end Sys2Proof.Proofs
end

section
/-! SUPPORT. What a METER frame does to a meter record and a VALVE frame to a valve entry (R63, R64, R68): the
sequence test by the difference modulo 256, then the outcomes of each command. -/

namespace Sys2Proof.Laws

open Machine Safety

/-! ### The sequence test (R47, R63, R68) -/

@[simp] theorem seqTaken_none (seq : Byte) : seqTaken none seq = true := rfl

@[simp] theorem seqTaken_some (q seq : Byte) : seqTaken (some q) seq = newer seq q := rfl

/-- Newer is a difference modulo 256 in 1..127 (00_scope 5.4). -/
theorem newer_iff (r q : Byte) :
    newer r q = true ↔ 1 ≤ (r.toNat + 256 - q.toNat) % 256 ∧ (r.toNat + 256 - q.toNat) % 256 ≤ 127 := by
  have hdiff : (r - q).toNat = (r.toNat + 256 - q.toNat) % 256 := by
    rw [BitVec.toNat_sub]
    have hq := q.isLt
    congr 1
    omega
  rw [newer, Bool.and_eq_true, decide_eq_true_iff, decide_eq_true_iff, hdiff]

/-- A sequence is taken where none is held, or where it is newer than the one held. -/
theorem seqTaken_iff (last : Option Byte) (seq : Byte) :
    seqTaken last seq = true ↔ last = none ∨ ∃ q, last = some q ∧ newer seq q = true := by
  cases last <;> simp

/-! ### The frame and its owner -/

/-- At a node with nothing due, a frame of another station reaches its owner once its sender is heard. -/
theorem receive_settle_from {k : FrameKind} {f : Frame} {a : Station} {s : State}
    (owner : Station → State → State) (hf : From k f a s) :
    receive k f owner (settle s) = owner a (heardFrom a s) := by
  obtain ⟨_, _, _, _, hcalm⟩ := id hf
  rw [settle_calm hcalm, receive_from owner hf]

/-! ### METER (R63, R64) -/

section MeterCommand

variable {f : Frame} {a : Station} {s : State} {r : MeterRec} {w : MeterWork}

/-- A METER frame of another station reaches the meter table. -/
theorem exec_meter_from (hf : From .meter f a s) :
    exec (.meter f) s = .next (takeMeter f.payload a (heardFrom a s)) :=
  congrArg Host.Outcome.next (receive_settle_from (takeMeter f.payload) hf)

/-- A frame whose key has no record is ignored. -/
theorem exec_meter_absent (hf : From .meter f a s) (h : s.meter? ⟨a, (decodeMeter f.payload).index⟩ = none) :
    exec (.meter f) s = .next (heardFrom a s) := by
  have hh : (heardFrom a s).meter? ⟨a, (decodeMeter f.payload).index⟩ = none := h
  simp [exec_meter_from hf, takeMeter, hh]

/-- A frame whose record is staged-only is ignored. -/
theorem exec_meter_staged_only (hf : From .meter f a s)
    (h : s.meter? ⟨a, (decodeMeter f.payload).index⟩ = some r) (hw : r.work = none) :
    exec (.meter f) s = .next (heardFrom a s) := by
  have hh : (heardFrom a s).meter? ⟨a, (decodeMeter f.payload).index⟩ = some r := h
  simp [exec_meter_from hf, takeMeter, hh, hw]

/-- A frame whose sequence is not taken is ignored. -/
theorem exec_meter_not_taken (hf : From .meter f a s)
    (h : s.meter? ⟨a, (decodeMeter f.payload).index⟩ = some r) (hw : r.work = some w)
    (hseq : seqTaken w.lastSeq (decodeMeter f.payload).seq = false) :
    exec (.meter f) s = .next (heardFrom a s) := by
  have hh : (heardFrom a s).meter? ⟨a, (decodeMeter f.payload).index⟩ = some r := h
  simp [exec_meter_from hf, takeMeter, hh, hw, hseq]

/-- A frame taken in with VALID clear makes the latest reading absent. -/
theorem exec_meter_invalid (hf : From .meter f a s)
    (h : s.meter? ⟨a, (decodeMeter f.payload).index⟩ = some r) (hw : r.work = some w)
    (hseq : seqTaken w.lastSeq (decodeMeter f.payload).seq = true) (hvalid : (decodeMeter f.payload).valid = false) :
    exec (.meter f) s = .next ((heardFrom a s).putMeter
      { r with work := some { w with lastSeq := some (decodeMeter f.payload).seq, reading := none } }) := by
  have hh : (heardFrom a s).meter? ⟨a, (decodeMeter f.payload).index⟩ = some r := h
  simp [exec_meter_from hf, takeMeter, hh, hw, hseq, hvalid]

/-- A frame taken in with VALID set replaces the latest reading and counts for T0 (R158). -/
theorem exec_meter_accepted (hf : From .meter f a s)
    (h : s.meter? ⟨a, (decodeMeter f.payload).index⟩ = some r) (hw : r.work = some w)
    (hseq : seqTaken w.lastSeq (decodeMeter f.payload).seq = true) (hvalid : (decodeMeter f.payload).valid = true) :
    exec (.meter f) s = .next (countEvent 0 ((heardFrom a s).putMeter
      { r with work := some { w with
          lastSeq := some (decodeMeter f.payload).seq
          reading := some (decodeMeter f.payload).reading } })) := by
  have hh : (heardFrom a s).meter? ⟨a, (decodeMeter f.payload).index⟩ = some r := h
  simp [exec_meter_from hf, takeMeter, hh, hw, hseq, hvalid]

end MeterCommand

/-! ### VALVE (R68) -/

section ValveCommand

variable {f : Frame} {a : Station} {s : State} {e : ValveEntry}

/-- A VALVE frame of another station reaches the valve table. -/
theorem exec_valve_from (hf : From .valve f a s) :
    exec (.valve f) s = .next (takeValve f.payload a (heardFrom a s)) :=
  congrArg Host.Outcome.next (receive_settle_from (takeValve f.payload) hf)

/-- A frame of a station without an entry is ignored. -/
theorem exec_valve_absent (hf : From .valve f a s) (h : s.valve? a = none) :
    exec (.valve f) s = .next (heardFrom a s) := by
  have hh : (heardFrom a s).valve? a = none := h
  simp [exec_valve_from hf, takeValve, hh]

/-- A frame whose sequence is not taken is ignored. -/
theorem exec_valve_not_taken (hf : From .valve f a s) (h : s.valve? a = some e)
    (hseq : seqTaken e.lastSeq (decodeValve f.payload).seq = false) :
    exec (.valve f) s = .next (heardFrom a s) := by
  have hh : (heardFrom a s).valve? a = some e := h
  simp [exec_valve_from hf, takeValve, hh, hseq]

/-- A frame whose sequence is taken replaces the states. -/
theorem exec_valve_taken (hf : From .valve f a s) (h : s.valve? a = some e)
    (hseq : seqTaken e.lastSeq (decodeValve f.payload).seq = true) :
    exec (.valve f) s = .next ((heardFrom a s).putValve
      { e with states := (decodeValve f.payload).states, lastSeq := some (decodeValve f.payload).seq }) := by
  have hh : (heardFrom a s).valve? a = some e := h
  simp [exec_valve_from hf, takeValve, hh, hseq]

end ValveCommand

end Sys2Proof.Laws
end

section
/-! PROOFS. The statement about METER and VALVE frames of Chapter 4. -/

namespace Sys2Proof.Proofs

open Machine Safety Laws

/-- Settles O16, by the outcomes of the two commands one by one; both test the sequence by `newer`. -/
theorem meterAndValveFrameOutcomes : Obligations.MeterAndValveFrameOutcomes := by
  refine ⟨?meter, ?valve, newer_iff, fun s => rfl⟩
  case meter =>
    intro f a s hf
    exact ⟨exec_meter_absent hf, fun r hr => ⟨exec_meter_staged_only hf hr, fun w hw =>
      ⟨exec_meter_not_taken hf hr hw, exec_meter_invalid hf hr hw, exec_meter_accepted hf hr hw⟩⟩⟩
  case valve =>
    intro f a s hf
    refine ⟨exec_valve_absent hf, fun e he => ⟨fun q hq hold => ?_, fun hnew => ?_⟩⟩
    · exact exec_valve_not_taken hf he (by rw [hq, seqTaken_some, hold])
    · exact exec_valve_taken hf he ((seqTaken_iff _ _).2 hnew)

end Sys2Proof.Proofs
end

section
/-! SUPPORT. Where stage 5 takes a meter's flow (R72, R75 to R80): which parcels the true terms of a meter name, the
set of them as an alert's value, and the one place a flow that is not deferred goes to. -/

namespace Sys2Proof.Laws

open Machine Safety

/-! ### Terms in the snapshot (R72, R75) -/

section Terms

variable {n : Snapshot} {s : State} {k : Key} {t : Term}

theorem mem_termsOfMeter : t ∈ termsOfMeter s k ↔ ∃ q : TermPos, s.terms[q].term = some t ∧ t.meter = k := by
  simp only [termsOfMeter, heldTerms, List.mem_filter, List.mem_filterMap, mem_toList_iff, decide_eq_true_iff]
  constructor
  · rintro ⟨⟨_, ⟨q, rfl⟩, ht⟩, hk⟩
    exact ⟨q, ht, hk⟩
  · rintro ⟨q, ht, hk⟩
    exact ⟨⟨_, ⟨q, rfl⟩, ht⟩, hk⟩

theorem literalHolds_iff (l : Literal) : n.literalHolds l = true ↔
    ∃ v, n.valve? l.station = some v ∧ v.states[l.valve] = if l.needOpen then .opened else .closed := by
  rw [Snapshot.literalHolds]
  cases n.valve? l.station <;> simp

theorem termTrue_iff : n.termTrue t = true ↔ ∀ l ∈ t.literals,
    ∃ v, n.valve? l.station = some v ∧ v.states[l.valve] = if l.needOpen then .opened else .closed := by
  simp only [Snapshot.termTrue, List.all_eq_true, literalHolds_iff]

theorem valveStale_eq_false_iff (a : Station) : n.valveStale a = false ↔
    n.stale[a] = false ∧ ∃ v, n.valve? a = some v ∧ v.heard = true := by
  rw [Snapshot.valveStale, Bool.or_eq_false_iff]
  cases n.valve? a <;> simp

/-- A meter with flow is not deferred where no term that names it has a literal on a stale station (R75). -/
theorem not_deferred_iff : n.defers (termsOfMeter s k) = false ↔
    ∀ (q : TermPos) (t : Term), s.terms[q].term = some t → t.meter = k → ∀ l ∈ t.literals,
      n.stale[l.station] = false ∧ ∃ v, n.valve? l.station = some v ∧ v.heard = true := by
  simp only [Snapshot.defers, List.any_eq_false, Bool.not_eq_true, valveStale_eq_false_iff, mem_termsOfMeter]
  constructor
  · intro h q t ht hk
    exact h t ⟨q, ht, hk⟩
  · rintro h t ⟨q, ht, hk⟩
    exact h q t ht hk

end Terms

/-! ### The parcels some terms name (R76, R80) -/

theorem mem_parcelsNamed {terms : List Term} {p : ParcelNo} :
    p ∈ parcelsNamed terms ↔ ∃ t ∈ terms, t.parcel = p := by
  simp [parcelsNamed]

/-- Named parcels stand in ascending number. -/
theorem parcelsNamed_sorted (terms : List Term) : (parcelsNamed terms).SortedLT :=
  ((List.pairwise_lt_finRange 8).filter _).sortedLT

/-- The parcels that the true terms of a meter name. -/
def trueParcels (n : Snapshot) (s : State) (k : Key) : List ParcelNo :=
  parcelsNamed ((termsOfMeter s k).filter n.termTrue)

theorem mem_trueParcels {n : Snapshot} {s : State} {k : Key} {p : ParcelNo} :
    p ∈ trueParcels n s k ↔ ∃ q : TermPos, ∃ t, s.terms[q].term = some t ∧ t.meter = k ∧ t.parcel = p
      ∧ ∀ l ∈ t.literals, ∃ v, n.valve? l.station = some v
        ∧ v.states[l.valve] = if l.needOpen then .opened else .closed := by
  simp only [trueParcels, mem_parcelsNamed, List.mem_filter, mem_termsOfMeter, termTrue_iff]
  constructor
  · rintro ⟨t, ⟨⟨q, ht, hk⟩, htrue⟩, hp⟩
    exact ⟨q, t, ht, hk, hp, htrue⟩
  · rintro ⟨q, t, ht, hk, hp, htrue⟩
    exact ⟨t, ⟨⟨q, ht, hk⟩, htrue⟩, hp⟩

/-- The value of a set of parcels has bit `x` set exactly for its members (R80, R131). -/
theorem parcelSet_bit_iff {l : List ParcelNo} (hl : l.SortedLT) (x : ParcelNo) :
    parcelSet l / 2 ^ x.val % 2 = 1 ↔ x ∈ l := by
  have hbits : (parcelSet l).bitIndices = l.map Fin.val := by
    have hsorted : (l.map Fin.val).SortedLT := (hl.pairwise.map Fin.val fun _ _ h => h).sortedLT
    rw [← Nat.bitIndices_sum_map_two_pow hsorted, List.map_map]
    rfl
  calc parcelSet l / 2 ^ x.val % 2 = 1
      ↔ (parcelSet l).testBit x.val = true := by rw [Nat.testBit_eq_decide_div_mod_eq, decide_eq_true_iff]
    _ ↔ x.val ∈ l.map Fin.val := by rw [← Nat.mem_bitIndices, hbits]
    _ ↔ x ∈ l := List.mem_map_of_injective Fin.val_injective

theorem parcelSet_le {l : List ParcelNo} (h : l.Sublist (List.finRange 8)) : parcelSet l ≤ 255 :=
  calc parcelSet l
      ≤ parcelSet (List.finRange 8) := (h.map fun p : ParcelNo => 2 ^ p.val).sum_le_sum fun _ _ => Nat.zero_le _
    _ = 255 := by decide

/-- A set of two parcels or more is 3 or more. -/
theorem three_le_parcelSet {p q : ParcelNo} (h : p < q) (l : List ParcelNo) : 3 ≤ parcelSet (p :: q :: l) := by
  have hp : 1 ≤ 2 ^ p.val := Nat.one_le_two_pow
  have hq : 2 ^ 1 ≤ 2 ^ q.val := Nat.pow_le_pow_right (by decide) (Nat.one_le_of_lt h)
  simp only [parcelSet, List.map_cons, List.sum_cons]
  omega

/-! ### A meter's record and its delta (R11) -/

theorem meter?_key {s : State} {k : Key} {r : MeterRec} (h : s.meter? k = some r) : r.key = k := by
  have hord : meterOrd r = keyCode k := findRec_ord h
  exact keyCode_injective hord

theorem indicatedDelta_eq (cumulative baseline : BitVec 24) :
    indicatedDelta cumulative baseline = (cumulative.toNat + 16777216 - baseline.toNat) % 16777216 := by
  rw [indicatedDelta, BitVec.toNat_sub]
  have hbaseline := baseline.isLt
  congr 1
  omega

theorem consumeMeter_declared {n : Snapshot} {s : State} {e : MeterSnap} {r : MeterRec} {w : MeterWork}
    (hr : s.meter? e.key = some r) (hw : r.work = some w) : consumeMeter n s e = consume n r w e s := by
  simp [consumeMeter, hr, hw]

/-- A flow that is not deferred is attributed by the parcels its true terms name (R76). -/
theorem consume_flow {n : Snapshot} {s : State} {e : MeterSnap} {r : MeterRec} {w : MeterWork}
    {reading : MeterReading} {baseline : BitVec 24} (hreading : e.reading = some reading)
    (hbaseline : w.baseline = some baseline) (hpos : 1 ≤ indicatedDelta reading.cumulative baseline)
    (hflow : indicatedDelta reading.cumulative baseline ≤ 8388608)
    (hfresh : n.defers (termsOfMeter s r.key) = false) :
    consume n r w e s = attributeFlow r w reading e.factor (indicatedDelta reading.cumulative baseline)
      (trueParcels n s r.key) s := by
  have hzero : indicatedDelta reading.cumulative baseline ≠ 0 := Nat.ne_of_gt hpos
  have hbreak : ¬largestFlow < indicatedDelta reading.cumulative baseline := Nat.not_lt.2 hflow
  simp [consume, hreading, hbaseline, hzero, hbreak, hfresh, trueParcels]

/-! ### The place a flow goes to (R76) -/

theorem not_working_iff (x : ParcelState) : x.working = false ↔ x = .vacant ∨ x = .declared ∨ x = .closed := by
  cases x <;> decide

theorem working_iff (x : ParcelState) : x.working = true ↔ x = .active ∨ x = .held := by
  cases x <;> decide

section Attribution

variable {r : MeterRec} {w : MeterWork} {reading : MeterReading} {factor delta : Nat} {p : ParcelNo} {s : State}

theorem attributeFlow_none :
    attributeFlow r w reading factor delta [] s = creditUnrouted r w reading.cumulative delta s := rfl

theorem attributeFlow_idle (h : s.parcels[p].state.working = false) :
    attributeFlow r w reading factor delta [p] s = creditUnrouted r w reading.cumulative delta s :=
  if_neg (Bool.eq_false_iff.1 h)

theorem attributeFlow_working (h : s.parcels[p].state.working = true) :
    attributeFlow r w reading factor delta [p] s = creditParcel r w reading factor delta p s := if_pos h

theorem attributeFlow_conflict (q : ParcelNo) (l : List ParcelNo) :
    attributeFlow r w reading factor delta (p :: q :: l) s
      = creditConflict r w reading.cumulative delta (p :: q :: l) s := rfl

/-- A credit to UNROUTED (R78, R79). -/
theorem creditUnrouted_eq {k : Key} (hk : r.key = k) (cumulative : BitVec 24) :
    creditUnrouted r w cumulative delta s =
      queueAlertTimes .unrouted (.meter k)
        ((min (min (w.unrouted + delta) 4294967295) 2147483647 : Nat) : Int) ((w.sinceNotice + delta) / 1000)
        (s.putMeter { r with work := some { w with
          baseline := some cumulative
          deferred := false
          unrouted := min (w.unrouted + delta) 4294967295
          sinceNotice := (w.sinceNotice + delta) % 1000 } }) := by
  rw [Nat.cast_min, ← hk]
  rfl

/-- A credit to CONFLICT (R78, R80). -/
theorem creditConflict_eq {k : Key} (hk : r.key = k) (cumulative : BitVec 24) (named : List ParcelNo) :
    creditConflict r w cumulative delta named s =
      queueAlert .routeConflict (.meter k) (parcelSet named : Int)
        (s.putMeter { r with work := some { w with
          baseline := some cumulative
          deferred := false
          conflict := min (w.conflict + delta) 4294967295 } }) := by
  rw [← hk]
  rfl

/-- A credit to a parcel (R12, R17, R77). -/
theorem creditParcel_eq {alpha : Nat} (halpha : s.parcels[p].alpha = some alpha) :
    creditParcel r w reading factor delta p s =
      let ctl := ctl5 alpha reading.temp
      let product := delta * factor * ctl.value + if w.lastCredited = some p then w.residue else 0
      let total := s.parcels[p].meterTotal + ((product / 10000000000 : Nat) : Int)
      (s.putMeter { r with work := some { w with
          baseline := some reading.cumulative
          deferred := false
          routed := min (w.routed + delta) 4294967295
          residue := product % 10000000000
          lastCredited := some p
          tempClamped := ctl.limited } }).putParcel p
        { s.parcels[p] with
          meterTotal := max (-2147483647) (min 2147483647 total)
          saturation := s.parcels[p].saturation || decide (2147483647 < total.natAbs) } := by
  have hlimited (x : Int) : (saturate x).limited = decide (2147483647 < x.natAbs) :=
    Bool.eq_iff_iff.2 ((saturate_limited x).trans decide_eq_true_iff.symm)
  simp only [creditParcel, halpha, Option.getD_some, saturate_value, hlimited]
  rfl

end Attribution

end Sys2Proof.Laws
end

section
/-! PROOFS. The statement about the attribution of a meter's flow (Chapter 4, R76). -/

namespace Sys2Proof.Proofs

open Machine Safety Laws

/-- Settles O38, by the parcels that the true terms name: none, one, or two and more. -/
theorem flowGoesToOnePlace : Obligations.FlowGoesToOnePlace := by
  intro n s e r w reading baseline delta hr hw hreading hbaseline hdelta hpos hflow hfresh
  have hkey : r.key = e.key := meter?_key hr
  have hattributed : consumeMeter n s e
      = attributeFlow r w reading e.factor delta (trueParcels n s e.key) s := by
    rw [← indicatedDelta_eq] at hdelta
    subst hdelta
    rw [consumeMeter_declared hr hw,
      consume_flow hreading hbaseline hpos hflow (not_deferred_iff.2 (hkey ▸ hfresh)), hkey]
  have hsorted : (trueParcels n s e.key).SortedLT := parcelsNamed_sorted _
  have hvalue : parcelSet (trueParcels n s e.key) ≤ 255 := parcelSet_le List.filter_sublist
  intro holds named record unrouted toUnrouted
  have hmem (p : ParcelNo) : p ∈ trueParcels n s e.key ↔ named p := mem_trueParcels
  have hunrouted : creditUnrouted r w reading.cumulative delta s = toUnrouted :=
    creditUnrouted_eq hkey reading.cumulative
  generalize trueParcels n s e.key = parcels at *
  refine ⟨fun hnone => ?_, fun p hp honly => ?_, fun p q hp hq hpq => ?_⟩
  · obtain rfl : parcels = [] := List.eq_nil_iff_forall_not_mem.2 fun p h => hnone p ((hmem p).1 h)
    rw [hattributed, attributeFlow_none, hunrouted]
  · obtain rfl : parcels = [p] := List.perm_singleton.1 <|
      (List.perm_ext_iff_of_nodup hsorted.nodup (List.nodup_singleton p)).2 fun q => by
        rw [hmem, List.mem_singleton]
        exact ⟨honly q, fun h => h ▸ hp⟩
    refine ⟨fun hidle => ?_, fun alpha halpha hworking => ?_⟩
    · rw [hattributed, attributeFlow_idle ((not_working_iff _).2 hidle), hunrouted]
    · rw [hattributed, attributeFlow_working ((working_iff _).2 hworking), creditParcel_eq halpha]
  · have hpmem := (hmem p).2 hp
    have hqmem := (hmem q).2 hq
    match parcels with
    | [] => exact absurd hpmem List.not_mem_nil
    | [x] => exact absurd ((List.mem_singleton.1 hpmem).trans (List.mem_singleton.1 hqmem).symm) hpq
    | x :: y :: rest =>
      have hxy : x < y := List.rel_of_pairwise_cons hsorted.pairwise List.mem_cons_self
      refine ⟨parcelSet (x :: y :: rest), ?_, three_le_parcelSet hxy rest, hvalue,
        fun z => (parcelSet_bit_iff hsorted z).trans (hmem z)⟩
      rw [hattributed, attributeFlow_conflict, creditConflict_eq hkey]

end Sys2Proof.Proofs
end

section
/-! SUPPORT. What the parcel table does with a declaration's copy and with a mark (Chapter 5, R86 to R88 and R96 to
R103): the check of a copy and the two outcomes of its decision, the pending mark, the revision check of a mark in
hand, the seven checks of an OPEN, and what OPEN, CLOSE and RELEASE make of the parcel. -/

namespace Sys2Proof.Laws

open Machine Safety

/-! ### A parcel record replaced twice -/

@[simp] theorem setPlace_setPlace {α : Type} {n : Nat} (v : Vector α n) (i : Fin n) (x y : α) :
    setPlace (setPlace v i x) i y = setPlace v i y := by
  refine vector_ext fun j => ?_
  simp only [setPlace_get]
  split_ifs <;> rfl

@[simp] theorem putParcel_putParcel (s : State) (p : ParcelNo) (x y : ParcelRec) :
    (s.putParcel p x).putParcel p y = s.putParcel p y := by
  simp [State.putParcel]

/-- What stands in a parcel's place after its record is replaced. -/
theorem putParcel_get_self (s : State) (p : ParcelNo) (r : ParcelRec) : (s.putParcel p r).parcels[p] = r :=
  setPlace_get_self s.parcels p r

/-! ### The check of a parcel's copy (R86, R87) -/

theorem opened_iff (x : ParcelState) : x.opened = true ↔ x = .active ∨ x = .held ∨ x = .closed := by
  cases x <;> decide

section Copies

variable {s : State} {p : ParcelNo} {c : Copy ParcelDecl} {r : ParcelRec} {d : ParcelDecl}

theorem parcelInRange_iff : parcelInRange d = true ↔
    6100 ≤ d.density ∧ d.density ≤ 11000 ∧ 9800 ≤ d.vef ∧ d.vef ≤ 10200 ∧ 5 ≤ d.tolerance ∧ d.tolerance ≤ 200
      ∧ d.floor ≠ 0 := by
  simp only [parcelInRange, Bool.and_eq_true, decide_eq_true_iff, and_assoc]

theorem protectedAgree_iff (a b : ParcelDecl) : protectedAgree a b = true ↔
    a.direction = b.direction ∧ a.cls = b.cls ∧ a.density = b.density ∧ a.basis = b.basis := by
  simp only [protectedAgree, Bool.and_eq_true, decide_eq_true_iff, and_assoc]

/-- A copy would change a protected parameter of an opened parcel (R87). -/
def ChangesProtected (r : ParcelRec) (d : ParcelDecl) : Prop :=
  r.state.opened = true ∧ ∃ old, r.decl.current = some old ∧ protectedAgree old.contents d = false

theorem changesProtected_iff : ChangesProtected r d ↔
    (r.state = .active ∨ r.state = .held ∨ r.state = .closed) ∧ ∃ old, r.decl.current = some old
      ∧ ¬(old.contents.direction = d.direction ∧ old.contents.cls = d.cls ∧ old.contents.density = d.density
        ∧ old.contents.basis = d.basis) := by
  simp only [ChangesProtected, opened_iff, ← protectedAgree_iff, Bool.not_eq_true]

theorem parcelRefusal_range (h : parcelInRange d = false) : parcelRefusal r d = some .range := by
  simp [parcelRefusal, h]

theorem parcelRefusal_protected (h : parcelInRange d = true) (hp : ChangesProtected r d) :
    parcelRefusal r d = some .protectedParcel := by
  obtain ⟨hopened, old, hold, hdiffer⟩ := hp
  simp [parcelRefusal, h, hold, hopened, hdiffer]

theorem parcelRefusal_none (h : parcelInRange d = true) (hp : ¬ChangesProtected r d) : parcelRefusal r d = none := by
  cases hcurrent : r.decl.current with
  | none => simp [parcelRefusal, h, hcurrent]
  | some old =>
    have hkeeps : ¬(r.state.opened && !protectedAgree old.contents d) = true := by
      rw [Bool.and_eq_true, Bool.not_eq_true']
      exact fun ⟨hopened, hdiffer⟩ => hp ⟨hopened, old, hcurrent, hdiffer⟩
    simp only [parcelRefusal, h, hcurrent, if_true, if_neg hkeeps]

/-! ### The decision on a parcel's copy (R86 to R88) -/

/-- A refused copy is discarded and reported with its reason's code (R34, R37). -/
theorem decideParcel_refused {why : RejectReason} (hc : s.parcels[p].decl.handOver = some c)
    (hwhy : parcelRefusal s.parcels[p] c.contents = some why) :
    decideParcel s p = queueAlert .planReject (.parcel p) ((c.rev.toNat + 256 * rejectCode why : Nat) : Int)
      (s.putParcel p { s.parcels[p] with decl := { s.parcels[p].decl with handOver := none } }) := by
  simp only [decideParcel, hc, hwhy]
  rfl

/-- An accepted copy declares and re-arms the parcel with its peer entries, and ALERT_N follows (R88, R132, R135,
R150). -/
theorem decideParcel_accepted (hc : s.parcels[p].decl.handOver = some c)
    (hnone : parcelRefusal s.parcels[p] c.contents = none) :
    decideParcel s p = driveAlertN
      { s.putParcel p (s.parcels[p].declared c) with peers := rearmPeers p c.rev s.peers } := by
  simp only [decideParcel, hc, hnone]
  rfl

end Copies

/-! ### MARK (R96) -/

section MarkCommand

variable {f : Frame} {a : Station} {s : State}

/-- A MARK frame of another station reaches the parcel table. -/
theorem exec_mark_from (hf : From .mark f a s) :
    exec (.mark f) s = .next (arriveMark f.payload a (heardFrom a s)) :=
  congrArg Host.Outcome.next (receive_settle_from (arriveMark f.payload) hf)

/-- The parcel that a MARK payload names: bits 2..0 of its first byte (Table 10-2). -/
theorem decodeMark_parcel (l : List Byte) : (decodeMark l).parcel.val = (byteAt l 0).toNat % 8 := by
  simp [decodeMark, fieldOf]

/-- A mark code that names a mark replaces the pending mark, whatever it was. -/
theorem exec_mark_named {k : MarkKind} (hf : From .mark f a s)
    (hk : markOfCode (byteAt f.payload 1).toNat = some k) :
    exec (.mark f) s = .next ((heardFrom a s).putParcel (decodeMark f.payload).parcel
      { s.parcels[(decodeMark f.payload).parcel] with pendingMark := some ⟨k, byteAt f.payload 2⟩ }) := by
  have hkind : (decodeMark f.payload).kind = some k := hk
  simp only [exec_mark_from hf, arriveMark, hkind]
  rfl

/-- A mark code that names none is ignored. -/
theorem exec_mark_unnamed (hf : From .mark f a s) (hk : markOfCode (byteAt f.payload 1).toNat = none) :
    exec (.mark f) s = .next (heardFrom a s) := by
  have hkind : (decodeMark f.payload).kind = none := hk
  simp only [exec_mark_from hf, arriveMark, hkind]

end MarkCommand

/-! ### The revision check of a mark in hand (R97) -/

section MarkInHand

variable {n : Snapshot} {s : State} {p : ParcelNo} {m : Mark} {c : Copy ParcelDecl}

/-- A mark whose expected revision is not the current one, or whose parcel has none, is refused. -/
theorem applyMark_outdated (hm : s.parcels[p].inHand = some m)
    (hrev : ∀ c, s.parcels[p].decl.current = some c → c.rev ≠ m.expected) :
    applyMark n s p = refuseRevision p m (s.putParcel p { s.parcels[p] with inHand := none }) := by
  have hdiffer : s.parcels[p].revision? ≠ some m.expected := by
    rw [ParcelRec.revision?, Ne, Option.map_eq_some_iff]
    rintro ⟨c, hc, heq⟩
    exact hrev c hc heq
  simp only [applyMark, hm, if_neg hdiffer]

/-- A mark of the current revision is judged by its kind. -/
theorem applyMark_current {k : MarkKind} (hm : s.parcels[p].inHand = some ⟨k, c.rev⟩)
    (hc : s.parcels[p].decl.current = some c) :
    applyMark n s p = applyKind n p ⟨k, c.rev⟩ (s.putParcel p { s.parcels[p] with inHand := none }) := by
  have hsame : s.parcels[p].revision? = some c.rev := by rw [ParcelRec.revision?, hc, Option.map_some]
  simp only [applyMark, hm, if_pos hsame]

end MarkInHand

/-! ### The seven checks of an OPEN (R98) -/

/-- A tank of a side is assigned to the parcel (checks 3 and 4). -/
def HasTank (s : State) (p : ParcelNo) (side : Side) : Prop := ∃ k w, (k, w) ∈ assignedTanks s p ∧ w.side = side

/-- A route term names the parcel (check 5). -/
def HasTerm (s : State) (p : ParcelNo) : Prop := ∃ q : TermPos, ∃ t, s.terms[q].term = some t ∧ t.parcel = p

/-- The stations of the parcel's tanks are fresh in the snapshot (check 6). -/
def TanksFresh (n : Snapshot) (s : State) (p : ParcelNo) : Prop :=
  ∀ k w, (k, w) ∈ assignedTanks s p → n.stale[k.station] = false

/-- The parcel's tanks have GAUGE-INVALID clear in the snapshot (check 7). -/
def TanksValid (n : Snapshot) (s : State) (p : ParcelNo) : Prop :=
  ∀ k w, (k, w) ∈ assignedTanks s p → ∃ e, n.tank? k = some e ∧ e.gaugeInvalid = false

section OpenChecks

variable {n : Snapshot} {s : State} {p : ParcelNo} {c : Copy ParcelDecl}

theorem esdAsserted_iff : esdAsserted s = true ↔ s.sr.esdLevel ≠ .released := by
  rw [esdAsserted]
  cases s.sr.esdLevel <;> decide

theorem any_side_iff (side : Side) :
    ((assignedTanks s p).any fun e => decide (e.2.side = side)) = true ↔ HasTank s p side := by
  simp only [List.any_eq_true, decide_eq_true_iff, Prod.exists, HasTank]

theorem termsOfParcel_isEmpty_eq_false_iff : (termsOfParcel s p).isEmpty = false ↔ HasTerm s p := by
  rw [List.isEmpty_eq_false_iff_exists_mem]
  simp only [termsOfParcel, heldTerms, List.mem_filter, List.mem_filterMap, mem_toList_iff, decide_eq_true_iff,
    HasTerm]
  constructor
  · rintro ⟨t, ⟨_, ⟨q, rfl⟩, ht⟩, hp⟩
    exact ⟨q, t, ht, hp⟩
  · rintro ⟨q, t, ht, hp⟩
    exact ⟨t, ⟨_, ⟨q, rfl⟩, ht⟩, hp⟩

theorem any_stale_eq_false_iff :
    ((assignedTanks s p).any fun e => n.stale[e.1.station]) = false ↔ TanksFresh n s p := by
  simp only [List.any_eq_false, Bool.not_eq_true, Prod.forall, TanksFresh]

theorem snapInvalid_eq_false_iff (k : Key) :
    snapInvalid n k = false ↔ ∃ e, n.tank? k = some e ∧ e.gaugeInvalid = false := by
  rw [snapInvalid]
  cases n.tank? k <;> simp

theorem any_invalid_eq_false_iff :
    ((assignedTanks s p).any fun e => snapInvalid n e.1) = false ↔ TanksValid n s p := by
  simp only [List.any_eq_false, Bool.not_eq_true, Prod.forall, TanksValid, snapInvalid_eq_false_iff]

open Classical in
/-- The seven checks of an OPEN in their order, each as the condition it asks for (R98). -/
theorem openRefusal_eq (hc : s.parcels[p].decl.current = some c) :
    openRefusal n s p =
      if s.parcels[p].state ≠ .declared then some .state
      else if s.sr.esdLevel ≠ .released then some .esd
      else if ¬HasTank s p .ship then some .noShipTank
      else if ¬(c.contents.basis = .tank → HasTank s p .shore) then some .noShoreTank
      else if ¬(c.contents.basis = .meter → HasTerm s p) then some .noTerm
      else if ¬TanksFresh n s p then some .tankStale
      else if ¬TanksValid n s p then some .gaugeInvalid
      else none := by
  have hbasis : s.parcels[p].basis? = some c.contents.basis := by rw [ParcelRec.basis?, hc, Option.map_some]
  simp only [openRefusal, hbasis, Option.some.injEq, ← esdAsserted_iff, ← any_side_iff,
    ← termsOfParcel_isEmpty_eq_false_iff, ← any_stale_eq_false_iff, ← any_invalid_eq_false_iff]
  simp

/-- The checks do not read the mark in hand. -/
theorem openRefusal_inHand (mark : Option Mark) :
    openRefusal n (s.putParcel p { s.parcels[p] with inHand := mark }) p = openRefusal n s p := by
  simp only [openRefusal, putParcel_get_self]
  rfl

end OpenChecks

/-! ### OPEN (R98, R99) -/

section Open

variable {n : Snapshot} {s : State} {p : ParcelNo} {expected : Byte} {c : Copy ParcelDecl}

theorem applyOpen_refused {why : OpenReason} (h : openRefusal n s p = some why) :
    applyOpen n p expected s = refuseOpen p expected why s := by
  simp only [applyOpen, h]

theorem applyOpen_opened (h : openRefusal n s p = none) : applyOpen n p expected s = openNow p s := by
  simp only [applyOpen, h]

/-- The record of a parcel that opens: every figure 0 and the band at the declared floor (R99). -/
theorem openedNow_eq {r : ParcelRec} (hc : r.decl.current = some c) :
    r.openedNow = { r with
      state := .active
      holds := ⟨false, false, false, false⟩
      meterTotal := 0
      saturation := false
      count := 0
      closedWhileHeld := false
      published := ⟨⟨0, 0, 0, 0, 0, 0, c.contents.floor * 100, false⟩, r.published.state, false⟩ } := by
  have hfloor : r.floor = c.contents.floor := by rw [ParcelRec.floor, hc]
  rw [ParcelRec.openedNow, hfloor]
  rfl

end Open

/-! ### CLOSE (R100, R101) -/

section Close

variable {s : State} {p : ParcelNo} {expected : Byte}

theorem applyClose_active (h : s.parcels[p].state = .active) :
    applyClose p expected s = s.putParcel p { s.parcels[p] with closing := true } := by
  simp only [applyClose, h]

theorem applyClose_held (h : s.parcels[p].state = .held) :
    applyClose p expected s = queueAlert .parcelClosed (.parcel p) s.parcels[p].published.figures.d
      (s.putParcel p { s.parcels[p] with
        state := .closed, closing := false, holds := ⟨false, false, false, false⟩, closedWhileHeld := true }) := by
  simp only [applyClose, h, closeParcel, Bool.or_true]
  rfl

theorem applyClose_idle (h : s.parcels[p].state.working = false) :
    applyClose p expected s = planReject (.parcel p) expected .markState s := by
  rcases (not_working_iff _).1 h with h | h | h <;> simp only [applyClose, h]

end Close

/-! ### RELEASE (R103) -/

section Release

variable {s : State} {p : ParcelNo} {expected : Byte}

theorem applyRelease_working (h : s.parcels[p].state.working = true) :
    applyRelease p expected s = planReject (.parcel p) expected .markState s := by
  rcases (working_iff _).1 h with h | h <;> simp only [applyRelease, h]

theorem applyRelease_vacant (h : s.parcels[p].state = .vacant) : applyRelease p expected s = s := by
  simp only [applyRelease, h]

theorem applyRelease_released (h : s.parcels[p].state = .closed ∨ s.parcels[p].state = .declared) :
    applyRelease p expected s = releaseNow p s := by
  rcases h with h | h <;> simp only [applyRelease, h]

/-- A release reads of the parcel's place only the record it replaces. -/
theorem releaseNow_putParcel (r : ParcelRec) :
    releaseNow p (s.putParcel p r) = driveAlertN
      { mapAssigned p TankWork.released (s.putParcel p r.releasedNow) with
        meters := s.meters.map fun x => { x with work := x.work.map (MeterWork.uncredited p) }
        peers := s.peers.filter fun e => decide (e.parcel ≠ p) } := by
  simp only [releaseNow, putParcel_get_self, putParcel_putParcel]
  rfl

end Release

end Sys2Proof.Laws
end

section
/-! PROOFS. The statements about parcels and their marks (Chapter 5, R86 to R88 and R96 to R103). -/

namespace Sys2Proof.Proofs

open Machine Safety Laws

/-- Settles O32, by the outcomes of the check: RANGE, PROTECTED, or none. -/
theorem parcelCopyDecision : Obligations.ParcelCopyDecision := by
  intro s p c hc r d inRange barred refused
  have hrange : parcelInRange d = true ↔ inRange := parcelInRange_iff
  have hbarred : ChangesProtected r d ↔ barred := changesProtected_iff
  have hrefused (why : RejectReason) (h : parcelRefusal r d = some why) :
      decideParcel s p = refused (rejectCode why) := decideParcel_refused hc h
  refine ⟨fun hout => ?_, fun hin hchange => ?_, fun hin hkeep => ?_⟩
  · exact hrefused .range (parcelRefusal_range (Bool.eq_false_iff.2 (mt hrange.1 hout)))
  · exact hrefused .protectedParcel (parcelRefusal_protected (hrange.2 hin) (hbarred.2 hchange))
  · exact decideParcel_accepted hc (parcelRefusal_none (hrange.2 hin) (mt hbarred.1 hkeep))

/-- Settles O41, by the checks in their order: an OPEN that reaches a check has passed those before it. -/
theorem openIsChecked : Obligations.OpenIsChecked := by
  refine ⟨fun n s p expected hm hrev => applyMark_outdated hm hrev, ?_⟩
  intro n s p c hm hc r gone refused tank pass1 pass2 pass3 pass4 pass5 pass6 pass7
  have happly : applyMark n s p = applyOpen n p c.rev gone := applyMark_current hm hc
  have hsame : openRefusal n gone p = openRefusal n s p := openRefusal_inHand none
  have hrefused (why : OpenReason) (h : openRefusal n s p = some why) :
      applyMark n s p = refused (openCode why) := happly.trans (applyOpen_refused (hsame.trans h))
  -- `afterK`: an OPEN that has passed the first K checks is judged by those that remain.
  have after0 := openRefusal_eq (n := n) hc
  have after1 (h : pass1) := after0.trans (if_neg (not_not_intro h))
  have after2 (h : pass2) := (after1 h.1).trans (if_neg (not_not_intro h.2))
  have after3 (h : pass3) := (after2 h.1).trans (if_neg (not_not_intro h.2))
  have after4 (h : pass4) := (after3 h.1).trans (if_neg (not_not_intro h.2))
  have after5 (h : pass5) := (after4 h.1).trans (if_neg (not_not_intro h.2))
  have after6 (h : pass6) := (after5 h.1).trans (if_neg (not_not_intro h.2))
  have after7 (h : pass7) := (after6 h.1).trans (if_neg (not_not_intro h.2))
  refine ⟨fun hfail => hrefused .state (after0.trans (if_pos hfail)),
    fun hpass hfail => hrefused .esd ((after1 hpass).trans (if_pos (mt (And.intro hpass) hfail))),
    fun hpass hfail => hrefused .noShipTank ((after2 hpass).trans (if_pos (mt (And.intro hpass) hfail))),
    fun hpass hfail => hrefused .noShoreTank ((after3 hpass).trans (if_pos (mt (And.intro hpass) hfail))),
    fun hpass hfail => hrefused .noTerm ((after4 hpass).trans (if_pos (mt (And.intro hpass) hfail))),
    fun hpass hfail => hrefused .tankStale ((after5 hpass).trans (if_pos (mt (And.intro hpass) hfail))),
    fun hpass hfail => hrefused .gaugeInvalid ((after6 hpass).trans (if_pos (mt (And.intro hpass) hfail))),
    fun hpass => ?_⟩
  have hgone : gone.parcels[p] = { r with inHand := none } := putParcel_get_self s p _
  have hcurrent : gone.parcels[p].decl.current = some c := by rw [hgone]; exact hc
  rw [happly, applyOpen_opened (hsame.trans (after7 hpass)), openNow, openedNow_eq hcurrent, hgone,
    putParcel_putParcel]
  rfl

/-- Settles O42, by the parcel's state, once for each of the two marks. -/
theorem closeAndReleaseByState : Obligations.CloseAndReleaseByState := by
  intro n s p c k hm hc r gone refused
  have hgone : gone.parcels[p] = r := putParcel_get_self s p r
  have happly : applyMark n s p = applyKind n p ⟨k, c.rev⟩ gone := applyMark_current hm hc
  have hreject : planReject (.parcel p) c.rev .markState gone = refused := rfl
  constructor
  · rintro rfl
    replace happly : applyMark n s p = applyClose p c.rev gone := happly
    rw [happly, ← hreject, ← not_working_iff, ← hgone]
    refine ⟨fun h => ?_, fun h => ?_, fun h => applyClose_idle h⟩
    · rw [applyClose_active h, putParcel_putParcel]
    · rw [applyClose_held h, putParcel_putParcel]
  · rintro rfl
    replace happly : applyMark n s p = applyRelease p c.rev gone := happly
    rw [happly, ← hreject, ← working_iff, ← hgone]
    refine ⟨fun h => applyRelease_working h, fun h => applyRelease_vacant h, fun h => ?_⟩
    rw [applyRelease_released h, hgone]
    exact releaseNow_putParcel r

/-- Settles O19: the parcel is the one the payload's first byte names. -/
theorem markFrameIsPending : Obligations.MarkFrameIsPending := by
  intro f a s hf
  exact ⟨(decodeMark f.payload).parcel, decodeMark_parcel _, fun _ => exec_mark_named hf, exec_mark_unnamed hf⟩

end Sys2Proof.Proofs
end

section
/-! SUPPORT. What a tolerance step does (Chapter 7, R125 to R131): the effective option of a parcel, the parcels a
STOP-ADVISE of subject ALL names, the act of each option at a latching, and the step where it latches and where it
does not. -/

namespace Sys2Proof.Laws

open Machine Safety

/-! ### The effective option (R129, R131) -/

theorem effectiveOption_eq (role : Role) (x : Fin 4) :
    effectiveOption role x = if role = .independent ∧ (x = 2 ∨ x = 3) then 0 else x := by
  have hadvising : 2 ≤ x.val ↔ x = 2 ∨ x = 3 := by omega
  simp only [effectiveOption, hadvising]

theorem effectiveOption_eq_three_iff (role : Role) (x : Fin 4) :
    effectiveOption role x = 3 ↔ role ≠ .independent ∧ x = 3 := by
  rw [effectiveOption_eq]
  split_ifs with h
  · exact iff_of_false (by decide) fun h' => h'.1 h.1
  · exact ⟨fun hx => ⟨fun hrole => h ⟨hrole, .inr hx⟩, hx⟩, And.right⟩

theorem option_declared {r : ParcelRec} {c : Copy ParcelDecl} (hc : r.decl.current = some c) (role : Role) :
    r.option role = effectiveOption role c.contents.option := by
  rw [ParcelRec.option, hc]

theorem option_eq_three_iff {r : ParcelRec} {role : Role} : r.option role = 3 ↔
    role ≠ .independent ∧ ∃ c, r.decl.current = some c ∧ c.contents.option = 3 := by
  cases hcurrent : r.decl.current with
  | none => simp [ParcelRec.option, hcurrent]
  | some c => simp [option_declared hcurrent, effectiveOption_eq_three_iff]

/-! ### The parcels a STOP-ADVISE of subject ALL names (R131) -/

theorem mem_advisedParcels {s : State} {q : ParcelNo} :
    q ∈ advisedParcels s ↔ s.parcels[q].excursion = true ∧ s.parcels[q].option s.sr.role = 3 := by
  simp [advisedParcels]

theorem advisedParcels_sorted (s : State) : (advisedParcels s).SortedLT :=
  ((List.pairwise_lt_finRange 8).filter _).sortedLT

theorem one_le_parcelSet {l : List ParcelNo} {p : ParcelNo} (h : p ∈ l) : 1 ≤ parcelSet l :=
  calc 1
      ≤ 2 ^ p.val := Nat.one_le_two_pow
    _ ≤ parcelSet l := List.le_sum_of_mem (List.mem_map_of_mem h)

/-! ### The act of each effective option (R129 to R131) -/

section CarryOut

variable {s : State} {p : ParcelNo} {d : Int}

theorem carryOut_alone (h : s.parcels[p].option s.sr.role = 0) : carryOut p d s = s := by
  simp only [carryOut, h]

theorem addHold_active {r : ParcelRec} (h : r.state = .active) (add : HoldSet → HoldSet) :
    r.addHold add = { r with holds := add r.holds, state := .held } :=
  if_pos ((working_iff _).2 (.inl h))

theorem carryOut_hold (h : s.parcels[p].option s.sr.role = 1) (hactive : s.parcels[p].state = .active) :
    carryOut p d s = s.putParcel p { s.parcels[p] with
      holds := { s.parcels[p].holds with excursionHold := true }, state := .held } := by
  simp only [carryOut, h, addHold_active hactive]

theorem carryOut_advise (h : s.parcels[p].option s.sr.role = 2) :
    carryOut p d s = queueAlert .stopAdvise (.parcel p) d s := by
  simp only [carryOut, h]

theorem carryOut_adviseAll (h : s.parcels[p].option s.sr.role = 3) :
    carryOut p d s = queueAlert .stopAdvise .all (parcelSet (advisedParcels s) : Int) s := by
  simp only [carryOut, h]

end CarryOut

/-! ### The tolerance step (R125 to R127) -/

section ToleranceStep

variable {s : State} {p : ParcelNo} {d : Int}

theorem depth_declared {r : ParcelRec} {c : Copy ParcelDecl} (hc : r.decl.current = some c) :
    r.depth = depthOfCode c.contents.depthCode := by
  rw [ParcelRec.depth, hc]

theorem latches_iff {count depth : Nat} {latch : Bool} :
    latches true count depth latch = true ↔ count + 1 = depth ∧ latch = false := by
  simp [latches]

/-- A result within the band returns the count to 0 and does nothing else (R125). -/
theorem toleranceStep_within :
    toleranceStep p false d s = s.putParcel p { s.parcels[p] with count := 0 } := rfl

/-- An excursive step that does not latch moves the count alone, at most to the depth (R125, R127). -/
theorem toleranceStep_silent
    (h : ¬(s.parcels[p].count + 1 = s.parcels[p].depth ∧ s.parcels[p].excursion = false)) :
    toleranceStep p true d s
      = s.putParcel p { s.parcels[p] with count := min (s.parcels[p].count + 1) s.parcels[p].depth } :=
  if_neg (mt latches_iff.1 h)

/-- The state a latching hands to the parcel's option: the count at the depth, the latch set with ALERT_N after it,
and the EXCURSION alert queued (R126). -/
def excursionAlerted (p : ParcelNo) (d : Int) (s : State) : State :=
  queueAlert .excursion (.parcel p) d
    (driveAlertN (s.putParcel p { s.parcels[p] with count := s.parcels[p].depth, excursion := true }))

theorem excursionAlerted_sr : (excursionAlerted p d s).sr = s.sr := by
  simp [excursionAlerted]

theorem excursionAlerted_self : (excursionAlerted p d s).parcels[p]
    = { s.parcels[p] with count := s.parcels[p].depth, excursion := true } := by
  simp [excursionAlerted]

theorem excursionAlerted_other {q : ParcelNo} (h : q ≠ p) : (excursionAlerted p d s).parcels[q] = s.parcels[q] := by
  simp only [excursionAlerted, queueAlert_parcels, driveAlertN_parcels, putParcel_parcels, setPlace_get_ne _ _ h]

theorem excursionAlerted_option (role : Role) :
    (excursionAlerted p d s).parcels[p].option role = s.parcels[p].option role := by
  rw [excursionAlerted_self]
  rfl

/-- An excursive step that raises the count to the depth with the latch clear latches (R126). -/
theorem toleranceStep_latching (hdepth : s.parcels[p].count + 1 = s.parcels[p].depth)
    (hclear : s.parcels[p].excursion = false) :
    toleranceStep p true d s = carryOut p d (excursionAlerted p d s) := by
  have hlatches := latches_iff.2 ⟨hdepth, hclear⟩
  have hcount : steppedCount true s.parcels[p].count s.parcels[p].depth = s.parcels[p].depth := by
    rw [steppedCount, if_pos rfl, hdepth, min_self]
  simp only [toleranceStep, hlatches, if_true, latch, hcount, putParcel_get_self, putParcel_putParcel,
    excursionAlerted]

/-- Among the parcels advised at a latching under option 3 stands the latching parcel itself (R131). -/
theorem mem_advisedParcels_excursionAlerted {q : ParcelNo} (h : s.parcels[p].option s.sr.role = 3) :
    q ∈ advisedParcels (excursionAlerted p d s) ↔ q = p ∨ (s.parcels[q].excursion = true
      ∧ ∃ c, s.parcels[q].decl.current = some c ∧ c.contents.option = 3) := by
  rw [mem_advisedParcels, excursionAlerted_sr]
  obtain rfl | hother := eq_or_ne q p
  · rw [excursionAlerted_option, excursionAlerted_self]
    exact iff_of_true ⟨rfl, h⟩ (.inl rfl)
  · have hrole : s.sr.role ≠ .independent := (option_eq_three_iff.1 h).1
    rw [excursionAlerted_other hother, option_eq_three_iff, and_iff_right hrole, or_iff_right hother]

end ToleranceStep

end Sys2Proof.Laws
end

section
/-! PROOFS. The statement about the tolerance step (Chapter 7, R125 to R131 and R139). -/

namespace Sys2Proof.Proofs

open Machine Safety Laws

/-- Settles O44, by the rows of R139: the step that returns the count, the three that move it in silence, and the
latching with the act of each effective option. -/
theorem toleranceStepRows : Obligations.ToleranceStepRows := by
  intro s p c d hc hactive r depth counted marked alerted option
  have hdepth : s.parcels[p].depth = depth := depth_declared hc
  have hoption : r.option s.sr.role = option := (option_declared hc _).trans (effectiveOption_eq _ _)
  have halerted : excursionAlerted p d s = alerted := by
    rw [excursionAlerted, hdepth]
    rfl
  have hsilent (h : ¬(r.count + 1 = depth ∧ r.excursion = false)) :
      toleranceStep p true d s = counted (min (r.count + 1) depth) := by
    rw [← hdepth] at h ⊢
    exact toleranceStep_silent h
  refine ⟨toleranceStep_within, fun hbelow => ?_, fun hfull => ?_, fun hreached hset => ?_,
    fun hreached hclear => ?_⟩
  · rw [hsilent (fun h => hbelow.ne h.1), min_eq_left hbelow.le]
  · rw [hsilent (by omega), min_eq_right (by omega)]
  · rw [hsilent (by simp [hset]), hreached, min_self]
  · have hstep : toleranceStep p true d s = carryOut p d (excursionAlerted p d s) :=
      toleranceStep_latching (hreached.trans hdepth.symm) hclear
    have hact : (excursionAlerted p d s).parcels[p].option (excursionAlerted p d s).sr.role = option := by
      rw [excursionAlerted_option, excursionAlerted_sr]
      exact hoption
    refine ⟨fun h => ?_, fun h => ?_, fun h => ?_, fun h => ?_⟩
    · rw [hstep, carryOut_alone (hact.trans h), halerted]
    · have hself : (excursionAlerted p d s).parcels[p] = { r with count := depth, excursion := true } := by
        rw [excursionAlerted_self, hdepth]
      have hstate : (excursionAlerted p d s).parcels[p].state = .active := by rw [hself]; exact hactive
      rw [hstep, carryOut_hold (hact.trans h) hstate, hself, halerted]
    · rw [hstep, carryOut_advise (hact.trans h), halerted]
    · have hnamed (q : ParcelNo) := mem_advisedParcels_excursionAlerted (d := d) (q := q) (hoption.trans h)
      refine ⟨parcelSet (advisedParcels (excursionAlerted p d s)), ?_, one_le_parcelSet ((hnamed p).2 (.inl rfl)),
        parcelSet_le List.filter_sublist,
        fun q => (parcelSet_bit_iff (advisedParcels_sorted _) q).trans (hnamed q)⟩
      rw [hstep, carryOut_adviseAll (hact.trans h), halerted]

end Sys2Proof.Proofs
end

section
/-! SUPPORT. What an update of a peer entry does (Chapter 8, R147 to R149): when it compares, and the three outcomes of
a comparison. -/

namespace Sys2Proof.Laws

open Machine Safety

/-! ### Whether an update compares (R147) -/

theorem compared_iff (x : ParcelState) : x.compared = true ↔ x = .active ∨ x = .closed := by
  cases x <;> decide

/-- The premises of a comparison (R147, steps 3 and 4): equal plan revisions, and both states compared. -/
def Compares (r : ParcelRec) (m : SummaryMsg) (state : ParcelState) : Prop :=
  (∃ c, r.decl.current = some c ∧ c.rev = m.planRev)
    ∧ (state = .active ∨ state = .closed)
    ∧ (r.published.state = .active ∨ r.published.state = .closed)

section Update

variable {e : PeerEntry} {m : SummaryMsg} {role : Role} {state : ParcelState} {s : State}

theorem updated_planDiffers_eq_false_iff (r : ParcelRec) :
    (e.updated m role state (r.decl.current.map (·.rev))).planDiffers = false
      ↔ ∃ c, r.decl.current = some c ∧ c.rev = m.planRev := by
  simp only [PeerEntry.updated, decide_eq_false_iff_not, not_not, Option.map_eq_some_iff]

theorem updateEntry_guard_iff (r : ParcelRec) :
    ((!(e.updated m role state (r.decl.current.map (·.rev))).planDiffers) = true
        ∧ state.compared = true ∧ r.published.state.compared = true) ↔ Compares r m state := by
  rw [Bool.not_eq_true', updated_planDiffers_eq_false_iff, compared_iff, compared_iff, Compares]

theorem updateEntry_uncompared (h : ¬Compares s.parcels[e.parcel] m state) :
    updateEntry e m role state s
      = s.putPeer (e.updated m role state (s.parcels[e.parcel].decl.current.map (·.rev))) :=
  if_neg (mt (updateEntry_guard_iff _).1 h)

theorem updateEntry_compares (h : Compares s.parcels[e.parcel] m state) :
    updateEntry e m role state s
      = compareEntry (e.updated m role state (s.parcels[e.parcel].decl.current.map (·.rev))) s :=
  if_pos ((updateEntry_guard_iff _).2 h)

end Update

/-! ### The outcomes of a comparison (R148, R149) -/

theorem diverges_iff {own : Figures} {d : Int} : diverges own d = true ↔ own.band / 2 < (own.d - d).natAbs :=
  decide_eq_true_iff

section Compare

variable {u : PeerEntry} {s : State}

theorem compareEntry_within (h : diverges s.parcels[u.parcel].published.figures u.d = false) :
    compareEntry u s = s.putPeer { u with count := 0 } := by
  simp only [compareEntry, divergedCount, h, Bool.false_eq_true, false_and, if_false]

/-- A divergent comparison that does not raise the count from 2 moves the count alone, at most to 3. -/
theorem compareEntry_silent (h : diverges s.parcels[u.parcel].published.figures u.d = true) (hcount : u.count ≠ 2) :
    compareEntry u s = s.putPeer { u with count := min (u.count + 1) 3 } := by
  simp only [compareEntry, divergedCount, h, hcount, and_false, if_true, if_false]

theorem compareEntry_latching (h : diverges s.parcels[u.parcel].published.figures u.d = true) (hcount : u.count = 2) :
    compareEntry u s = latchPeer u.parcel u.peer (s.putPeer { u with count := 3 }) := by
  simp only [compareEntry, divergedCount, h, hcount, and_self, if_true, Nat.reduceAdd, min_self]

end Compare

end Sys2Proof.Laws
end

section
/-! PROOFS. The statement about the update of a peer entry (Chapter 8, R147 to R149). -/

namespace Sys2Proof.Proofs

open Machine Safety Laws

/-- Settles O22, by whether the update compares and then by the rows of R148: within the threshold, divergent in
silence below and at the top of the count, and divergent with the latching of R149. -/
theorem peerEntryUpdate : Obligations.PeerEntryUpdate := by
  intro e m role state h own u compares magnitude threshold
  have hcompared (hc : compares) : updateEntry e m role state h = compareEntry u h := updateEntry_compares hc
  have hdivergent (hd : threshold < magnitude) : diverges h.parcels[u.parcel].published.figures u.d = true :=
    diverges_iff.2 hd
  have hsilent (hc : compares) (hd : threshold < magnitude) (hcount : u.count ≠ 2) :
      updateEntry e m role state h = h.putPeer { u with count := min (u.count + 1) 3 } :=
    (hcompared hc).trans (compareEntry_silent (hdivergent hd) hcount)
  refine ⟨fun hc => updateEntry_uncompared hc, fun hc hwithin => ?_, fun hc hd hlow => ?_, fun hc hd htwo => ?_,
    fun hc hd hthree => ?_⟩
  · rw [hcompared hc, compareEntry_within (Bool.eq_false_iff.2 (mt diverges_iff.1 hwithin.not_gt))]
  · rw [hsilent hc hd (by omega), min_eq_left (by omega)]
  · rw [hcompared hc, compareEntry_latching (hdivergent hd) htwo]
    rfl
  · rw [hsilent hc hd (by omega), hthree]
    rfl

end Sys2Proof.Proofs
end

section
/-! SUPPORT. What a CADENCE frame does (Chapter 9, R161 to R164): its act on the timer it names, and the frame's way
to the cadence timers. -/

namespace Sys2Proof.Laws

open Machine Safety

/-! ### The timer's act (R162 to R164) -/

section TimerAct

variable {t : Timer} {m : CadenceMsg}

/-- HALT, whatever NOW says (R162). -/
theorem cadence_halt (h : m.halt = true) :
    t.cadence m = { t with run := .halted, pendingSet := some m.params } :=
  if_pos h

/-- NOW without HALT (R163). -/
theorem cadence_now (hhalt : m.halt = false) (hnow : m.now = true) :
    t.cadence m = { t with
      params := m.params
      pendingSet := none
      count := m.params.constant
      phase := 0
      run := .running } := by
  simp only [Timer.cadence, hhalt, hnow, Bool.false_eq_true, if_false, if_true]

/-- Neither HALT nor NOW (R164). -/
theorem cadence_resume (hhalt : m.halt = false) (hnow : m.now = false) :
    t.cadence m = { t with run := .running, pendingSet := some m.params } := by
  simp only [Timer.cadence, hhalt, hnow, Bool.false_eq_true, if_false]

end TimerAct

/-! ### The frame at the cadence timers (R156, R161) -/

section CadenceCommand

variable {f : Frame} {p : List Byte} {a : Station} {s : State} {c : Instr}

/-- A stale limit of 0 leaves the limit in force (R165). -/
theorem changeLimit_zero (s : State) : changeLimit 0 s = s := if_pos rfl

/-- A CADENCE frame for another node is ignored. -/
theorem takeCadence_other (h : (decodeCadence p).target ≠ s.sr.address.val) : takeCadence p a s = s := if_pos h

/-- A CADENCE frame for this node that carries no stale limit for T2 acts on the timer it names alone, and is
remembered where that is T3. -/
theorem takeCadence_own (h : (decodeCadence p).target = s.sr.address.val)
    (hlimit : (decodeCadence p).timer ≠ 2 ∨ (decodeCadence p).staleLimit = 0) :
    takeCadence p a s = { s with ct := { s.ct with
      timers := setPlace s.ct.timers (decodeCadence p).timer
        (s.ct.timers[(decodeCadence p).timer].cadence (decodeCadence p))
      t3Set := s.ct.t3Set || decide ((decodeCadence p).timer = 3) } } := by
  have hkept (u : State) :
      (if (decodeCadence p).timer = 2 then changeLimit (decodeCadence p).staleLimit u else u) = u := by
    rcases hlimit with hother | hzero
    · exact if_neg hother
    · rw [hzero, changeLimit_zero, ite_self]
  rw [takeCadence, if_neg (not_not_intro h), hkept]
  by_cases h3 : (decodeCadence p).timer = 3 <;> simp [h3, State.mapTimer]

/-- A CADENCE frame of another station reaches the cadence timers, whichever of the three commands brings it: the
frame's own flags say how it acts. -/
theorem exec_cadence_from (hf : From .cadence f a s)
    (hc : c = .cadenceHalt f ∨ c = .cadenceNow f ∨ c = .cadenceResume f) :
    exec c s = .next (takeCadence f.payload a (heardFrom a s)) := by
  have howner := receive_settle_from (takeCadence f.payload) hf
  rcases hc with rfl | rfl | rfl <;> exact congrArg Host.Outcome.next howner

end CadenceCommand

end Sys2Proof.Laws
end

section
/-! PROOFS. The statement about CADENCE frames (Chapter 9, R156 and R161 to R164). -/

namespace Sys2Proof.Proofs

open Machine Safety Laws

/-- Settles O23, by the node the frame is for and then by its HALT and NOW flags. -/
theorem cadenceFramesSetTimers : Obligations.CadenceFramesSetTimers := by
  intro f a s c hf hc m h t
  have hexec : exec c s = .next (takeCadence f.payload a h) := exec_cadence_from hf hc
  refine ⟨fun hother => ?_, fun hown hlimit => ?_⟩
  · exact hexec.trans (congrArg Host.Outcome.next (takeCadence_other hother))
  · intro after
    have hafter : exec c s = after (t.cadence m) :=
      hexec.trans (congrArg Host.Outcome.next (takeCadence_own hown hlimit))
    refine ⟨fun hhalt => ?_, fun hhalt hnow => ?_, fun hhalt hnow => ?_⟩
    · rw [hafter, cadence_halt hhalt]
    · rw [hafter, cadence_now hhalt hnow]
    · rw [hafter, cadence_resume hhalt hnow]

end Sys2Proof.Proofs
end

section
/-! SUPPORT. What an alert does to the alert queue (Chapter 11, R188 and R189): the cause and subject a record is
known by, one rule per case of the queue, and what the queue's causes and subjects are afterwards. -/

namespace Sys2Proof.Laws

open Machine

/-! ### A record's cause and subject -/

section AlertKeys

variable {a b r x : AlertRec} {l before after : List AlertRec}

/-- What R188 knows a queued record by: its cause and subject. -/
def alertKey (a : AlertRec) : Cause × Subject := (a.cause, a.subject)

theorem alertKey_eq_iff : alertKey a = alertKey b ↔ a.cause = b.cause ∧ a.subject = b.subject := by
  rw [alertKey, alertKey, Prod.mk.injEq]

theorem sameAlert_iff_key : sameAlert a b = true ↔ alertKey a = alertKey b := by
  rw [sameAlert, Bool.and_eq_true, decide_eq_true_iff, decide_eq_true_iff, alertKey_eq_iff]

theorem sameAlert_false_iff_key : sameAlert a b = false ↔ alertKey a ≠ alertKey b := by
  rw [← Bool.not_eq_true, sameAlert_iff_key]

/-- Some record of a list is of `r`'s cause and subject exactly while the list's keys hold `r`'s. -/
theorem any_sameAlert_iff_key : (l.any fun x => sameAlert x r) = true ↔ alertKey r ∈ l.map alertKey := by
  simp only [List.any_eq_true, List.mem_map, sameAlert_iff_key]

theorem any_sameAlert_false_iff_key : (l.any fun x => sameAlert x r) = false ↔ alertKey r ∉ l.map alertKey := by
  rw [← Bool.not_eq_true, any_sameAlert_iff_key]

/-- A list none of whose records has `r`'s cause and subject is one without `r`'s key. -/
theorem alertKey_not_mem (h : ∀ y ∈ l, ¬(y.cause = r.cause ∧ y.subject = r.subject)) :
    alertKey r ∉ l.map alertKey := by
  intro hmem
  obtain ⟨y, hy, hkey⟩ := List.mem_map.mp hmem
  exact h y hy (alertKey_eq_iff.mp hkey)

/-- No two records of one cause and subject: the keys are all different. -/
theorem pairwise_alike_iff_nodup :
    l.Pairwise (fun a b => ¬(a.cause = b.cause ∧ a.subject = b.subject)) ↔ (l.map alertKey).Nodup := by
  simp only [List.Nodup, List.pairwise_map, ne_eq, alertKey_eq_iff]

/-- A replacement changes no record's cause or subject. -/
theorem replaceAlert_keys (r : AlertRec) (l : List AlertRec) :
    (replaceAlert r l).map alertKey = l.map alertKey := by
  rw [replaceAlert, List.map_map]
  refine List.map_congr_left fun x _ => ?_
  rw [Function.comp_apply]
  split_ifs with hsame
  · exact (sameAlert_iff_key.mp hsame).symm
  · rfl

/-- A list without `r`'s cause and subject is kept as it is. -/
theorem replaceAlert_absent (h : alertKey r ∉ l.map alertKey) : replaceAlert r l = l := by
  refine (List.map_congr_left fun x hx => ?_).trans (List.map_id' l)
  refine if_neg fun hsame => h ?_
  exact sameAlert_iff_key.mp hsame ▸ List.mem_map_of_mem hx

/-- The one record of `r`'s cause and subject is replaced in its place. -/
theorem replaceAlert_only (hx : alertKey x = alertKey r) (hbefore : alertKey r ∉ before.map alertKey)
    (hafter : alertKey r ∉ after.map alertKey) :
    replaceAlert r (before ++ x :: after) = before ++ r :: after := by
  calc replaceAlert r (before ++ x :: after)
      = replaceAlert r before ++ (if sameAlert x r then r else x) :: replaceAlert r after := by
        simp only [replaceAlert, List.map_append, List.map_cons]
    _ = before ++ r :: after := by
        rw [replaceAlert_absent hbefore, replaceAlert_absent hafter, if_pos (sameAlert_iff_key.mpr hx)]

end AlertKeys

/-! ### The cases of the queue (R188, R189) -/

section AlertTaken

variable {s : State} {cause : Cause} {subject : Subject} {value : Int} {r head x : AlertRec}
  {rest before after : List AlertRec}

/-- An alert reaching an empty queue is queued and, slot 0 being empty, loaded at once. -/
theorem queueAlert_empty (hr : r = ⟨cause, subject, value, s.sr.clock⟩) (hq : s.aq.records = [])
    (hslot : s.slots[(0 : Fin 4)] = .empty) :
    queueAlert cause subject value s = offer { s with
      aq := { s.aq with records := [r] }
      slots := setPlace s.slots 0 (.pending (alertFrame r)) } := by
  have htakes : takesLoad 0 s.slots[(0 : Fin 4)] = true := by rw [hslot, takesLoad]
  subst hr
  rw [queueAlert, hq]
  exact if_pos htakes

/-- An alert of the head's cause and subject takes the head's place, and WITHHELD is set. -/
theorem queueAlert_head (hr : r = ⟨cause, subject, value, s.sr.clock⟩) (hq : s.aq.records = head :: rest)
    (hhead : alertKey head = alertKey r) :
    queueAlert cause subject value s = { s with aq := ⟨r :: rest, true⟩ } := by
  subst hr
  rw [queueAlert, hq]
  exact if_pos (sameAlert_iff_key.mpr hhead)

/-- An alert of a later record's cause and subject replaces it there, and WITHHELD stays. -/
theorem queueAlert_later (hr : r = ⟨cause, subject, value, s.sr.clock⟩) (hq : s.aq.records = head :: rest)
    (hhead : alertKey head ≠ alertKey r) (hrest : alertKey r ∈ rest.map alertKey) :
    queueAlert cause subject value s = { s with aq := { s.aq with records := head :: replaceAlert r rest } } := by
  subst hr
  rw [queueAlert, hq]
  exact (if_neg (mt sameAlert_iff_key.mp hhead)).trans (if_pos (any_sameAlert_iff_key.mpr hrest))

/-- An alert of a cause and subject not queued, the queue not empty: it is appended while there is room, and else
dropped with WITHHELD set. -/
theorem queueAlert_absent (hr : r = ⟨cause, subject, value, s.sr.clock⟩) (hq : s.aq.records = head :: rest)
    (habsent : alertKey r ∉ s.aq.records.map alertKey) :
    queueAlert cause subject value s =
      if s.aq.records.length < maxAlerts then { s with aq := { s.aq with records := s.aq.records ++ [r] } }
      else { s with aq := { s.aq with withheld := true } } := by
  rw [hq, List.map_cons, List.mem_cons, not_or] at habsent
  obtain ⟨hhead, hrest⟩ := habsent
  subst hr
  rw [queueAlert, hq]
  exact (if_neg (mt sameAlert_iff_key.mp (Ne.symm hhead))).trans (if_neg (mt any_sameAlert_iff_key.mp hrest))

/-- The one record of the alert's cause and subject is replaced in its place; WITHHELD is set where it is the
head. -/
theorem queueAlert_replaces (hr : r = ⟨cause, subject, value, s.sr.clock⟩)
    (hq : s.aq.records = before ++ x :: after) (hx : alertKey x = alertKey r)
    (hbefore : alertKey r ∉ before.map alertKey) (hafter : alertKey r ∉ after.map alertKey) :
    queueAlert cause subject value s = { s with
      aq := ⟨before ++ r :: after, s.aq.withheld || decide (before = [])⟩ } := by
  cases before with
  | nil =>
    rw [queueAlert_head hr hq hx, List.nil_append, decide_eq_true rfl, Bool.or_true]
  | cons head between =>
    rw [List.map_cons, List.mem_cons, not_or] at hbefore
    obtain ⟨hhead, hbetween⟩ := hbefore
    have hlater : alertKey r ∈ (between ++ x :: after).map alertKey :=
      hx ▸ List.mem_map_of_mem (List.mem_append_right between List.mem_cons_self)
    rw [queueAlert_later (rest := between ++ x :: after) hr hq (Ne.symm hhead) hlater,
      replaceAlert_only hx hbetween hafter, decide_eq_false (List.cons_ne_nil head between), Bool.or_false,
      List.cons_append]

/-- The keys of the queue after an alert (R188): those before it, or those and the alert's own, which none of them
is, where there is room. -/
theorem queueAlert_keys (cause : Cause) (subject : Subject) (value : Int) (s : State) :
    (queueAlert cause subject value s).aq.records.map alertKey = s.aq.records.map alertKey
      ∨ (queueAlert cause subject value s).aq.records.map alertKey
            = s.aq.records.map alertKey ++ [(cause, subject)]
        ∧ (cause, subject) ∉ s.aq.records.map alertKey ∧ s.aq.records.length < maxAlerts := by
  rcases queueAlert_cases s cause subject value _ rfl with
    ⟨hq, heq⟩ | ⟨head, rest, hq, ⟨hsame, heq⟩ | ⟨-, -, heq⟩ | ⟨hhead, hrest, hroom, heq⟩ | ⟨-, -, -, heq⟩⟩ <;>
    rw [heq]
  · rw [loadSlot_aq, hq]
    exact .inr ⟨rfl, List.not_mem_nil, by decide⟩
  · rw [hq, List.map_cons, List.map_cons, sameAlert_iff_key.mp hsame]
    exact .inl rfl
  · rw [hq, List.map_cons, List.map_cons, replaceAlert_keys]
    exact .inl rfl
  · rw [hq, List.map_append]
    refine .inr ⟨rfl, ?_, hroom⟩
    rw [List.map_cons, List.mem_cons, not_or]
    exact ⟨Ne.symm (sameAlert_false_iff_key.mp hhead), any_sameAlert_false_iff_key.mp hrest⟩
  · exact .inl rfl

/-- An alert keeps the queue within 16 records, no two of one cause and subject (R188). -/
theorem queueAlert_keeps_sound (cause : Cause) (subject : Subject) (value : Int)
    (hlength : s.aq.records.length ≤ maxAlerts) (hnodup : (s.aq.records.map alertKey).Nodup) :
    (queueAlert cause subject value s).aq.records.length ≤ maxAlerts
      ∧ ((queueAlert cause subject value s).aq.records.map alertKey).Nodup := by
  rw [← List.length_map alertKey]
  rcases queueAlert_keys cause subject value s with hkept | ⟨happended, hnew, hroom⟩
  · rw [hkept, List.length_map]
    exact ⟨hlength, hnodup⟩
  · rw [happended, List.length_append, List.length_map, ← List.concat_eq_append]
    exact ⟨hroom, hnodup.concat hnew⟩

end AlertTaken

end Sys2Proof.Laws
end

section
/-! PROOFS. The statement about the alert queue (Chapter 11, R188 and R189). -/

namespace Sys2Proof.Proofs

open Machine Safety Laws

/-- Settles O20, one rule for each case of R188, and the invariant by the keys the queue holds afterwards. -/
theorem alertQueueTakesAlerts : Obligations.AlertQueueTakesAlerts := by
  intro cause subject value s r
  refine ⟨queueAlert_empty rfl, fun before x after hq hcause hsubject hothers => ?_,
    fun head rest hq hnone => ⟨fun hroom => ?_, fun hfull => ?_⟩, fun hlength hpair => ?_⟩
  · obtain ⟨hbefore, hafter⟩ := List.forall_mem_append.mp hothers
    exact queueAlert_replaces rfl hq (alertKey_eq_iff.mpr ⟨hcause, hsubject⟩)
      (alertKey_not_mem (r := r) hbefore) (alertKey_not_mem (r := r) hafter)
  · exact (queueAlert_absent rfl hq (alertKey_not_mem (r := r) hnone)).trans (if_pos hroom)
  · exact (queueAlert_absent rfl hq (alertKey_not_mem (r := r) hnone)).trans (if_neg (Nat.not_lt.mpr hfull))
  · obtain ⟨hlength', hnodup⟩ :=
      queueAlert_keeps_sound cause subject value hlength (pairwise_alike_iff_nodup.mp hpair)
    exact ⟨hlength', pairwise_alike_iff_nodup.mpr hnodup⟩

end Sys2Proof.Proofs
end

section
/-! SUPPORT. Everything one act of the node can do, said once: to a declaration state, to a record, to the tables and the
engine, and to the transmit slots with the queues that load them. A command is a chain of such acts, so an invariant is
proved act by act. -/

namespace Sys2Proof.Laws

open Machine Safety

/-! ### A declaration state (R26 to R38) -/

/-- A change that leaves the current declaration as it is: a copy staged at its arrival (R28, R30), the staged copy taken
at a pass start (R35), the hand-over copy refused (R37). -/
inductive DeclChange {α : Type} (d : Decls α) : Decls α → Prop
  | staged (c : Copy α)
      (h : d.newestKnown = none ∨ (newerThan c.rev d.current = true ∧ newerThan c.rev d.handOver = true
        ∧ newerThan c.rev d.staged = true)) : DeclChange d (d.stage c)
  | handed : DeclChange d d.toHandOver
  | refused : DeclChange d d.refused

theorem newestKnown_eq_none {α : Type} {d : Decls α} (h : d.newestKnown = none) : d = Decls.absent := by
  obtain ⟨current, staged, handOver⟩ := d
  cases staged <;> cases handOver <;> simp_all [Decls.newestKnown, Decls.absent]

/-- A copy classed for staging is newer than every copy held, or the first (R28, R30). -/
theorem DeclChange.of_classify {α : Type} {same : α → α → Bool} {d : Decls α} {c : Copy α}
    (h : classify same d c = .stage) : DeclChange d (d.stage c) := by
  refine .staged c ?_
  unfold classify at h
  split at h
  · next hn => exact .inl hn
  · split at h
    · next hahead =>
      simp only [Bool.and_eq_true, and_assoc] at hahead
      exact .inr hahead
    · split at h <;> [split at h; skip] <;> cases h

@[simp] theorem toHandOver_current {α : Type} (d : Decls α) : d.toHandOver.current = d.current := by
  unfold Decls.toHandOver
  split <;> rfl

theorem DeclChange.current_eq {α : Type} {d d' : Decls α} (h : DeclChange d d') : d'.current = d.current := by
  cases h with
  | staged c _ => rfl
  | handed => exact toHandOver_current d
  | refused => rfl

theorem DeclChange.forward {α : Type} {d d' : Decls α} (h : DeclChange d d') (hd : Forward d) : Forward d' := by
  cases h with
  | staged c hc =>
    refine ⟨fun x hx => ?_, hd.2⟩
    cases hx
    rcases hc with hn | ⟨hcur, hho, -⟩
    · rw [newestKnown_eq_none hn]
      exact ⟨rfl, rfl⟩
    · exact ⟨hho, hcur⟩
  | handed =>
    unfold Decls.toHandOver
    split
    · next c hc => exact ⟨fun x hx => (by cases hx), fun x hx => (by cases hx; exact (hd.1 c hc).2)⟩
    · exact hd
  | refused => exact ⟨fun x hx => ⟨rfl, (hd.1 x hx).2⟩, fun x hx => (by cases hx)⟩

/-! ### One record -/

/-- A change of a tank record where it stands, outside stages 1, 4 and 6. -/
inductive TankChange (r : TankRec) : TankRec → Prop
  | decl {d : Decls TankDecl} (h : DeclChange r.decl d) : TankChange r { r with decl := d }
  | gauge {w : TankWork} (m : GaugeMsg) (h : r.work = some w) : TankChange r { r with work := some (w.gauge m) }

/-- A change of a meter record where it stands, outside stage 1. -/
inductive MeterChange (r : MeterRec) : MeterRec → Prop
  | decl {d : Decls MeterDecl} (h : DeclChange r.decl d) : MeterChange r { r with decl := d }
  | work (f : MeterWork → MeterWork) (h : ∀ w ∈ r.work, MeterSound w → MeterSound (f w)) :
      MeterChange r { r with work := r.work.map f }

/-- A change of a parcel record that neither declares nor opens nor releases it. -/
inductive ParcelChange (r : ParcelRec) : ParcelRec → Prop
  | same : ParcelChange r r
  | decl {d : Decls ParcelDecl} (h : DeclChange r.decl d) : ParcelChange r { r with decl := d }
  | marks (waiting inHand : Option Mark) : ParcelChange r { r with pendingMark := waiting, inHand := inHand }
  | flags (saturation excursion peerDiverge closing : Bool) :
      ParcelChange r
        { r with saturation := saturation, excursion := excursion, peerDiverge := peerDiverge, closing := closing }
  | credited (litres : Nat) (saturation : Bool) :
      ParcelChange r { r with meterTotal := (saturate (r.meterTotal + litres)).value, saturation := saturation }
  | stepped (excursive : Bool) :
      ParcelChange r { r with count := steppedCount excursive r.count r.depth }
  | held (add : HoldSet → HoldSet) : ParcelChange r (r.addHold add)
  | recomputed (h : HoldSet) (hw : r.state.working = true) : ParcelChange r (r.withHolds h)
  | closed (whileHeld : Bool) (hw : r.state.working = true) :
      ParcelChange r
        { r with state := .closed, closing := false, holds := HoldSet.empty, closedWhileHeld := whileHeld }

/-! ### The tables and the engine -/

/-- The stages that follow one another with no act between but the last record's (R109). -/
inductive Follows : Stage → Stage → Prop
  | handOver : Follows .handOver .snapshot
  | holdCauses : Follows .holdCauses .tankVolumes
  | tankVolumes : Follows .tankVolumes .meterFlow
  | meterFlow : Follows .meterFlow .marks
  | marks : Follows .marks .figures
  | figures : Follows .figures .publication

/-- The end of a pass at its publication, with the engine IDLE and no pass pending: a pending pass begins in an act of
its own (R108, R116). -/
def endPass (s : State) : State :=
  { publishAll s with ee := ⟨.idle, 0, false, s.ee.overrun, none, Vector.replicate 8 none⟩ }

/-- Everything an act can do to the tables and the engine. -/
inductive RecordAct (s : State) : State → Prop
  | tank {k : Key} {r r' : TankRec} (found : s.tank? k = some r) (h : TankChange r r') : RecordAct s (s.putTank r')
  | newTank {k : Key} (c : Copy TankDecl) (absent : s.tank? k = none) (h : s.tanks.length < maxTanks) :
      RecordAct s (s.putTank ⟨k, Decls.stagedOnly c, none⟩)
  | dropTank (k : Key) : RecordAct s (s.dropTank k)
  | removeTank {k : Key} {r : TankRec} (found : s.tank? k = some r) :
      RecordAct s (s.putTank ⟨r.key, r.decl.removed, none⟩)
  | acceptTank {k : Key} {r : TankRec} {c : Copy TankDecl} {side : Side} {parcel : Option ParcelNo}
      (stage : s.ee.pass = .running .handOver) (found : s.tank? k = some r) (copy : r.decl.handOver = some c)
      (h : tankProtected s r.work side parcel = false) :
      RecordAct s (s.putTank { r with decl := r.decl.accepted c, work := some (tankAccepted r.work side parcel) })
  | meter {k : Key} {r r' : MeterRec} (found : s.meter? k = some r) (h : MeterChange r r') :
      RecordAct s (s.putMeter r')
  | newMeter {k : Key} (c : Copy MeterDecl) (absent : s.meter? k = none) (h : s.meters.length < maxMeters) :
      RecordAct s (s.putMeter ⟨k, Decls.stagedOnly c, none⟩)
  | dropMeter (k : Key) : RecordAct s (s.dropMeter k)
  | removeMeter {k : Key} {r : MeterRec} (found : s.meter? k = some r) :
      RecordAct s (s.putMeter ⟨r.key, r.decl.removed, none⟩)
  | acceptMeter {k : Key} {r : MeterRec} {c : Copy MeterDecl} (found : s.meter? k = some r)
      (copy : r.decl.handOver = some c) (h : factorOk c.contents.factor = true) :
      RecordAct s (s.putMeter
        { r with decl := r.decl.accepted c, work := some (meterAccepted r.work c.contents.factor) })
  | uncredit (p : ParcelNo) :
      RecordAct s { s with meters := s.meters.map fun r => { r with work := r.work.map (MeterWork.uncredited p) } }
  | valve {a : Station} {e : ValveEntry} (states : Vector ValveState 16) (seq : Byte) (found : s.valve? a = some e) :
      RecordAct s (s.putValve { e with states := states, lastSeq := some seq })
  | term (q : TermPos) {d : Decls TermDecl} (h : DeclChange s.terms[q].decl d) :
      RecordAct s (s.putTerm q { s.terms[q] with decl := d })
  | applyTerm {q : TermPos} {c : Copy TermDecl} (term : Option Term) (copy : s.terms[q].decl.handOver = some c)
      (h : ∀ t, term = some t → (namedStations (termsWith s q t)).length ≤ maxValves) :
      RecordAct s (s.applyTerm q c term)
  | parcels (v : Vector ParcelRec 8) (h : ∀ p : ParcelNo, ParcelChange s.parcels[p] v[p]) :
      RecordAct s { s with parcels := v }
  | declare {p : ParcelNo} {c : Copy ParcelDecl} (stage : s.ee.pass = .running .handOver)
      (copy : s.parcels[p].decl.handOver = some c) (h : parcelRefusal s.parcels[p] c.contents = none) :
      RecordAct s (s.putParcel p (s.parcels[p].declared c))
  | openNow {p : ParcelNo} {n : Snapshot} (stage : s.ee.pass = .running .marks) (held : s.ee.snapshot = some n)
      (h : openRefusal n s p = none) : RecordAct s (openNow p s)
  | release (p : ParcelNo) :
      RecordAct s (mapAssigned p TankWork.released (s.putParcel p s.parcels[p].releasedNow))
  | rearm (p : ParcelNo) (rev : Byte) : RecordAct s { s with peers := rearmPeers p rev s.peers }
  | dropPeers (keep : PeerEntry → Bool) : RecordAct s { s with peers := s.peers.filter keep }
  | peer (e : PeerEntry) (h : (s.peer? e.peer e.parcel).isSome = true ∨ s.peers.length < maxPeers) :
      RecordAct s (s.putPeer e)
  | begins (h : s.ee.pass = .idle) : RecordAct s (beginPass s)
  | request (h : s.ee.pass ≠ .idle) : RecordAct s { s with ee := { s.ee with pending := true } }
  | advance {g g' : Stage} (stage : s.ee.pass = .running g) (next : Follows g g')
      (h : g = .tankVolumes → ∀ n ∈ s.ee.snapshot, n.tanks.length ≤ s.ee.visited) : RecordAct s (toStage g' s)
  | fill (stage : s.ee.pass = .running .snapshot) : RecordAct s (fillSnapshot s)
  | reach {n : Nat} (stage : countsVisits s.ee.pass = true) (volumes : s.ee.pass ≠ .running .tankVolumes)
      (h : s.ee.visited ≤ n) : RecordAct s (reach n s)
  | volume {n : Snapshot} {e : TankSnap} (stage : s.ee.pass = .running .tankVolumes) (held : s.ee.snapshot = some n)
      (h : n.tanks[s.ee.visited]? = some e) : RecordAct s (reach (s.ee.visited + 1) (computeVolume n s e))
  | keep {p : ParcelNo} (f : Figures) (stage : s.ee.pass = .running .figures) (h : p.val < s.ee.visited) :
      RecordAct s (keepEvaluated p f s)
  | complete (stage : s.ee.pass = .running .publication) : RecordAct s (endPass s)

/-! ### The slots and the queues -/

/-- Everything an act can do to the transmit slots and the queues that load them. -/
inductive QueueAct (s : State) : State → Prop
  | quiet (sr : StrapReset) (bi : BusInterface) (ct : CadenceTimers) (fresh : Vector FreshEntry 63) (alertN : Bool)
      (freeIndex : Nat) (overrun : Bool) :
      QueueAct s { s with
        sr := sr, bi := bi, ct := ct, fresh := fresh, alertN := alertN, freeIndex := freeIndex
        ee := { s.ee with overrun := overrun } }
  | offer : QueueAct s (offer s)
  | returned : QueueAct s (returnFrame s)
  | alert (cause : Cause) (subject : Subject) (value : Int) : QueueAct s (queueAlert cause subject value s)
  | owner : QueueAct s (settleOwner s)
  | announce : QueueAct s (loadAnnounce s)
  | round : QueueAct s (requestRound s)
  | query (p : List Byte) (a : Station) : QueueAct s (takeQuery p a s)
  | sent (h : s.told = none) : QueueAct s (frameSent s)

/-! ### A command -/

/-- Everything one act of the node can do. -/
inductive Act (s : State) : State → Prop
  | record {t : State} (h : RecordAct s t) : Act s t
  | queue {t : State} (h : QueueAct s t) : Act s t
  | reset (address : Fin 27) (role : Role) (rate : BusRate) (esd : EsdLevel) :
      Act s (State.atResetEnd address role rate esd s.freeIndex s.pending)

/-- Acts one after another. -/
abbrev Acts : State → State → Prop := Relation.ReflTransGen Act

theorem RecordAct.acts {s t : State} (h : RecordAct s t) : Acts s t := .single (.record h)

theorem QueueAct.acts {s t : State} (h : QueueAct s t) : Acts s t := .single (.queue h)

theorem Acts.record {s t u : State} (h : Acts s t) (h' : RecordAct t u) : Acts s u := h.tail (.record h')

theorem Acts.queue {s t u : State} (h : Acts s t) (h' : QueueAct t u) : Acts s u := h.tail (.queue h')

/-- What every act keeps, acts one after another keep. -/
theorem Acts.keeps {P : State → Prop} (hP : ∀ s t, Act s t → P s → P t) {s t : State} (h : Acts s t) (hs : P s) :
    P t := by
  induction h with
  | refl => exact hs
  | tail _ hact ih => exact hP _ _ hact ih

end Sys2Proof.Laws
end

section
/-! SUPPORT. Every command is a chain of the acts of the node: first what falls due, then the frames and their owners, the
stages of a pass, and the bus. -/

namespace Sys2Proof.Laws

open Machine Safety

variable {s : State}

/-- A parcel record changed where it stands. -/
theorem RecordAct.parcel {p : ParcelNo} {r : ParcelRec} (h : ParcelChange s.parcels[p] r) :
    RecordAct s (s.putParcel p r) := by
  refine .parcels _ fun q => ?_
  rw [setPlace_get]
  split
  · next hq => exact hq ▸ h
  · exact .same

/-- A term's declaration state may only change. -/
theorem QueueAct.planReject (subject : Subject) (rev : Byte) (reason : RejectReason) :
    QueueAct s (planReject subject rev reason s) := .alert _ _ _

theorem QueueAct.planClash (subject : Subject) (rev : Byte) : QueueAct s (planClash subject rev s) := .alert _ _ _

/-! ### What falls due -/

theorem acts_requestPass : Acts s (requestPass s) := by
  unfold requestPass
  split
  · next h => exact (RecordAct.begins h).acts
  · next h =>
    split
    · exact (QueueAct.quiet _ _ _ _ _ _ _).acts
    · exact (RecordAct.request (by rw [h]; simp)).acts

theorem acts_mapTimer (i : TimerNo) (f : Timer → Timer) : QueueAct s (s.mapTimer i f) :=
  .quiet _ _ _ _ _ _ _

/-- A zero of a timer is a change of the timer with the acts of its work. -/
theorem acts_zeroEvent {work : State → State} (h : ∀ t, Acts t (work t)) (i : TimerNo) : Acts s (zeroEvent i work s) := by
  rcases zeroEvent_cases i work s with ⟨-, e⟩ | ⟨-, e⟩ <;> rw [e]
  exact (acts_mapTimer i Timer.reload).acts.trans (h _)

theorem acts_goStale (a : Station) : Acts s (goStale s a) := by
  unfold goStale
  split
  · exact (RecordAct.dropPeers _).acts
  · exact (QueueAct.alert _ _ _).acts.record (.dropPeers _)

/-- A change of ages or limit, with the stations it turns stale. -/
theorem acts_withTransitions {act : State → State} (h : QueueAct s (act s)) : Acts s (withTransitions act s) :=
  foldl_keeps (P := Acts s) (fun _ _ _ ht => ht.trans (acts_goStale _)) h.acts

theorem acts_sweep : Acts s (sweep s) :=
  acts_withTransitions (by rw [ageAll]; exact .quiet _ _ _ _ _ _ _)

theorem acts_zero0 : Acts s (zero0 s) := acts_zeroEvent (fun _ => acts_requestPass.queue (acts_mapTimer _ _)) 0

theorem acts_zero1 : Acts s (zero1 s) := acts_zeroEvent (fun _ => QueueAct.round.acts.queue (acts_mapTimer _ _)) 1

theorem acts_zero2 : Acts s (zero2 s) := acts_zeroEvent (fun _ => acts_sweep) 2

theorem acts_zero3 : Acts s (zero3 s) := acts_zeroEvent (fun _ => QueueAct.announce.acts) 3

theorem acts_holdForEsd : RecordAct s (holdForEsd s) := by
  refine .parcels _ fun p => ?_
  rw [mapPlaces_get]
  exact .held _

theorem acts_assertEsd : Acts s (assertEsd s) := by
  rcases assertEsd_cases s with ⟨-, e⟩ | ⟨-, e⟩ <;> rw [e]
  exact ((QueueAct.quiet _ _ _ _ _ _ _).acts.record acts_holdForEsd).queue (.alert _ _ _)

theorem acts_releaseEsd : Acts s (releaseEsd s) := by
  rcases releaseEsd_cases s with ⟨-, e⟩ | ⟨-, e⟩ <;> rw [e]
  unfold acceptRelease
  split
  · exact (QueueAct.quiet _ _ _ _ _ _ _).acts
  · exact (QueueAct.quiet _ _ _ _ _ _ _).acts.queue (.alert _ _ _)

theorem acts_queueOwed : Acts s (queueOwed s) := by
  unfold queueOwed
  split
  · exact (QueueAct.quiet _ _ _ _ _ _ _).acts.queue (.alert _ _ _)
  · exact .refl

theorem acts_startT3 : Acts s (startT3 s) := by
  unfold startT3
  split
  · exact .refl
  · exact (acts_mapTimer _ _).acts

theorem acts_stopStagger : Acts s (stopStagger s) := by
  rcases stopStagger_cases s with ⟨-, e⟩ | ⟨-, e⟩ <;> rw [e]
  have started : Acts s (startT3 { s with sr := { s.sr with stagger := .ended } }) :=
    (QueueAct.quiet _ _ _ _ _ _ _).acts.trans acts_startT3
  unfold endStagger
  dsimp only
  generalize startT3 _ = t at started
  split
  · have counted : Acts s { t with freeIndex := t.freeIndex + 1 } := started.queue (.quiet _ _ _ _ _ _ _)
    split
    · exact Acts.queue (counted.trans acts_queueOwed) .offer
    · exact (counted.queue .offer).trans acts_queueOwed
  · exact started.queue .offer

theorem acts_settleTimed : Acts s (settleTimed s) :=
  acts_zero0.trans <| acts_zero1.trans <| acts_zero2.trans <| acts_zero3.trans <|
    acts_assertEsd.trans <| acts_releaseEsd.trans acts_stopStagger

theorem acts_settle : Acts s (settle s) := QueueAct.owner.acts.trans acts_settleTimed

/-! ### Frames and their owners -/

/-- A frame received is a chain of acts where its owner's part is one. -/
theorem acts_receive {k : FrameKind} {f : Frame} {owner : Station → State → State} (h : ∀ a t, Acts t (owner a t)) :
    Acts s (receive k f owner s) := by
  have judges : Acts s (judged s) := (QueueAct.quiet _ _ _ _ _ _ _).acts
  refine receive_keeps (P := Acts s) (fun _ => judges) (fun _ => judges.queue (.quiet _ _ _ _ _ _ _)) (fun a _ _ => ?_)
    .refl
  exact (judges.queue (.quiet _ _ _ _ _ _ _)).trans (h a _)

theorem acts_takeGauge (p : List Byte) (a : Station) : Acts s (takeGauge p a s) := by
  unfold takeGauge
  dsimp only
  split
  · exact .refl
  · next r hr =>
    split
    · exact .refl
    · next w hw => exact (RecordAct.tank hr (.gauge _ hw)).acts

/-- A meter's reading fields lie outside the ranges of R59. -/
theorem meterChange_reading {r : MeterRec} {w : MeterWork} (hw : r.work = some w) (seq : Option Byte)
    (reading : Option MeterReading) :
    MeterChange r { r with work := some { w with lastSeq := seq, reading := reading } } := by
  have := MeterChange.work (r := r) (fun _ => { w with lastSeq := seq, reading := reading })
    (fun v hv h => by rw [hw] at hv; cases hv; exact h)
  simpa [hw] using this

theorem acts_takeMeter (p : List Byte) (a : Station) : Acts s (takeMeter p a s) := by
  unfold takeMeter
  dsimp only
  split
  · exact .refl
  · next r hr =>
    split
    · exact .refl
    · next w hw =>
      split
      · split
        · exact (RecordAct.meter hr (meterChange_reading hw _ _)).acts.queue (acts_mapTimer _ _)
        · exact (RecordAct.meter hr (meterChange_reading hw _ _)).acts
      · exact .refl

theorem acts_takeValve (p : List Byte) (a : Station) : Acts s (takeValve p a s) := by
  unfold takeValve
  dsimp only
  split
  · exact .refl
  · next e he =>
    split
    · exact (RecordAct.valve _ _ he).acts
    · exact .refl

theorem acts_arriveMeter (p : List Byte) (a : Station) : Acts s (arriveMeter p a s) := by
  unfold arriveMeter
  dsimp only
  split
  · exact .refl
  · next k _ =>
    split
    · next habsent =>
      split
      · exact .refl
      · split
        · exact (QueueAct.planReject _ _ _).acts
        · next hfull => exact (RecordAct.newMeter _ habsent (Nat.lt_of_not_le hfull)).acts
    · next r hr =>
      split
      · next hc => exact (RecordAct.meter hr (.decl (.of_classify hc))).acts
      · exact .refl
      · exact (QueueAct.planClash _ _).acts

theorem acts_arriveTank (p : List Byte) (a : Station) : Acts s (arriveTank p a s) := by
  unfold arriveTank
  dsimp only
  split
  · exact .refl
  · next k _ =>
    split
    · next habsent =>
      split
      · exact .refl
      · split
        · exact (QueueAct.planReject _ _ _).acts
        · next hfull => exact (RecordAct.newTank _ habsent (Nat.lt_of_not_le hfull)).acts
    · next r hr =>
      split
      · next hc => exact (RecordAct.tank hr (.decl (.of_classify hc))).acts
      · exact .refl
      · exact (QueueAct.planClash _ _).acts

theorem acts_arriveParcel (p : List Byte) (a : Station) : Acts s (arriveParcel p a s) := by
  unfold arriveParcel
  dsimp only
  split
  · exact .refl
  · split
    · next hc => exact (RecordAct.parcel (.decl (.of_classify hc))).acts
    · exact .refl
    · exact (QueueAct.planClash _ _).acts

theorem acts_arriveTerm (p : List Byte) (a : Station) : Acts s (arriveTerm p a s) := by
  unfold arriveTerm
  dsimp only
  split
  · exact .refl
  · split
    · next hc => exact (RecordAct.term _ (.of_classify hc)).acts
    · exact .refl
    · exact (QueueAct.planClash _ _).acts

theorem acts_arriveMark (p : List Byte) (a : Station) : Acts s (arriveMark p a s) := by
  unfold arriveMark
  dsimp only
  split
  · exact .refl
  · exact (RecordAct.parcel (.marks _ _)).acts

theorem acts_heardRole (a : Station) (role : Option Role) : Acts s (heardRole a role s) := by
  unfold heardRole
  split
  · exact (QueueAct.quiet _ _ _ _ _ _ _).acts
  · exact .refl

theorem acts_driveAlertN : QueueAct s (driveAlertN s) := .quiet _ _ _ _ _ _ _

/-- An entry may be put where one of its key stands or where the table has a place (R145). -/
def PeerFits (s : State) (e : PeerEntry) : Prop :=
  (s.peer? e.peer e.parcel).isSome = true ∨ s.peers.length < maxPeers

theorem acts_latchPeer (p : ParcelNo) (a : Station) : Acts s (latchPeer p a s) := by
  have latched : RecordAct s (s.putParcel p { s.parcels[p] with peerDiverge := true }) :=
    .parcel (.flags s.parcels[p].saturation s.parcels[p].excursion true s.parcels[p].closing)
  exact (latched.acts.queue acts_driveAlertN).queue (.alert _ _ _)

theorem acts_compareEntry {e : PeerEntry} (h : PeerFits s e) : Acts s (compareEntry e s) := by
  unfold compareEntry
  dsimp only
  have put (count : Nat) : RecordAct s (s.putPeer { e with count := count }) := .peer _ h
  split
  · exact (put _).acts.trans (acts_latchPeer _ _)
  · exact (put _).acts

theorem acts_updateEntry {e : PeerEntry} (h : PeerFits s e) (m : SummaryMsg) (role : Role) (state : ParcelState) :
    Acts s (updateEntry e m role state s) := by
  unfold updateEntry
  dsimp only
  have fits (own : Option Byte) : PeerFits s (e.updated m role state own) := h
  split
  · exact acts_compareEntry (fits _)
  · exact (RecordAct.peer _ (fits _)).acts

theorem acts_takeSummary (p : List Byte) (a : Station) : Acts s (takeSummary p a s) := by
  unfold takeSummary
  simp only
  split
  · split
    · exact (RecordAct.dropPeers _).acts
    · split
      · exact .refl
      · split
        · next e he =>
          have hkey : peerOrd e = a.val * 8 + (decodeSummary p).parcel.val := findRec_ord he
          refine acts_updateEntry (.inl ?_) _ _ _
          show (findRec peerOrd (peerOrd e) s.peers).isSome = true
          rw [hkey]
          exact Option.isSome_iff_exists.2 ⟨e, he⟩
        · split
          · next hplace => exact acts_updateEntry (.inr hplace) _ _ _
          · exact .refl
  · exact .refl

theorem acts_takeAnnounce (p : List Byte) (a : Station) : Acts s (takeAnnounce p a s) := (RecordAct.dropPeers _).acts

theorem acts_takeCadence (p : List Byte) (a : Station) : Acts s (takeCadence p a s) := by
  unfold takeCadence
  simp only
  split
  · exact .refl
  · have set : Acts s (s.mapTimer (decodeCadence p).timer fun x => x.cadence (decodeCadence p)) :=
      (acts_mapTimer _ _).acts
    by_cases h3 : (decodeCadence p).timer = 3
    · simp only [h3, show (3 : TimerNo) ≠ 2 by decide, if_true, if_false]
      exact (h3 ▸ set).queue (.quiet _ _ _ _ _ _ _)
    · simp only [h3, if_false]
      split
      · unfold changeLimit
        split
        · exact set
        · exact set.trans (acts_withTransitions (.quiet _ _ _ _ _ _ _))
      · exact set

/-! ### Stage 1 -/

theorem acts_refuseMeter {k : Key} {r : MeterRec} (found : s.meter? k = some r) (c : Copy MeterDecl)
    (why : RejectReason) : Acts s (refuseMeter r c why s) := by
  unfold refuseMeter
  split
  · exact (RecordAct.meter found (.decl .refused)).acts.queue (.planReject _ _ _)
  · exact (RecordAct.dropMeter _).acts.queue (.planReject _ _ _)

theorem acts_refuseTank {k : Key} {r : TankRec} (found : s.tank? k = some r) (c : Copy TankDecl)
    (why : RejectReason) : Acts s (refuseTank r c why s) := by
  unfold refuseTank
  split
  · exact (RecordAct.tank found (.decl .refused)).acts.queue (.planReject _ _ _)
  · exact (RecordAct.dropTank _).acts.queue (.planReject _ _ _)

theorem acts_decideMeter {k : Key} {r : MeterRec} (found : s.meter? k = some r) : Acts s (decideMeter s r) := by
  unfold decideMeter
  split
  · exact .refl
  · next c hc =>
    split
    · exact acts_refuseMeter found _ _
    · next hok =>
      split
      · unfold removeMeter
        split
        · exact (RecordAct.removeMeter found).acts
        · exact (RecordAct.dropMeter _).acts
      · next hremove =>
        refine (RecordAct.acceptMeter found hc ?_).acts
        by_contra hfactor
        simp [meterRefusal, hremove, hfactor] at hok

theorem acts_decideTank {k : Key} {r : TankRec} (stage : s.ee.pass = .running .handOver) (found : s.tank? k = some r) :
    Acts s (decideTank s r) := by
  unfold decideTank
  split
  · exact .refl
  · next c hc =>
    split
    · split
      · exact acts_refuseTank found _ _
      · unfold removeTank
        split
        · exact (RecordAct.removeTank found).acts
        · exact (RecordAct.dropTank _).acts
    · split
      · split
        · exact acts_refuseTank found _ _
        · next hp => exact (RecordAct.acceptTank stage found hc (by simpa using hp)).acts
      · exact acts_refuseTank found _ _

theorem acts_decideParcel (stage : s.ee.pass = .running .handOver) (p : ParcelNo) : Acts s (decideParcel s p) := by
  unfold decideParcel
  split
  · exact .refl
  · next c hc =>
    split
    · exact (RecordAct.parcel (.decl .refused)).acts.queue (.planReject _ _ _)
    · next hok => exact ((RecordAct.declare stage hc hok).acts.record (.rearm p c.rev)).queue acts_driveAlertN

theorem acts_refuseTerm (q : TermPos) (c : Copy TermDecl) (why : RejectReason) : Acts s (refuseTerm q c why s) :=
  (RecordAct.term q .refused).acts.queue (.planReject _ _ _)

theorem acts_decideTerm (q : TermPos) : Acts s (decideTerm s q) := by
  unfold decideTerm
  split
  · exact .refl
  · next c hc =>
    split
    · exact (RecordAct.applyTerm none hc (by simp)).acts
    · split
      · exact acts_refuseTerm _ _ _
      · next t _ =>
        split
        · split
          · next hcap => exact (RecordAct.applyTerm (some t) hc (by rintro _ ⟨⟩; exact hcap)).acts
          · exact acts_refuseTerm _ _ _
        · exact acts_refuseTerm _ _ _

theorem acts_decideOffer (stage : s.ee.pass = .running .handOver) (o : Offer) : Acts s (decideOffer s o) := by
  cases o with
  | meter k =>
    cases h : s.meter? k with
    | none => simp [decideOffer, h, Relation.ReflTransGen.refl]
    | some r => simpa [decideOffer, h] using acts_decideMeter h
  | tank k =>
    cases h : s.tank? k with
    | none => simp [decideOffer, h, Relation.ReflTransGen.refl]
    | some r => simpa [decideOffer, h] using acts_decideTank stage h
  | parcel p => exact acts_decideParcel stage p
  | term q => exact acts_decideTerm q

end Sys2Proof.Laws
end

section
/-! SUPPORT. The stages of a pass and the bus, as chains of the acts of the node, and with them every command. -/

namespace Sys2Proof.Laws

open Machine Safety

variable {s : State}

/-! ### What the stages leave of the engine -/

@[simp] theorem decideMeter_ee (r : MeterRec) : (decideMeter s r).ee = s.ee := by
  unfold decideMeter
  split
  · rfl
  · split
    · unfold refuseMeter; split <;> simp
    · split
      · unfold removeMeter; split <;> rfl
      · rfl

@[simp] theorem decideTank_ee (r : TankRec) : (decideTank s r).ee = s.ee := by
  have refused (c : Copy TankDecl) (why : RejectReason) : (refuseTank r c why s).ee = s.ee := by
    unfold refuseTank; split <;> simp
  unfold decideTank
  split
  · rfl
  · split
    · split
      · exact refused _ _
      · unfold removeTank; split <;> rfl
    · split
      · split
        · exact refused _ _
        · rfl
      · exact refused _ _

@[simp] theorem decideParcel_ee (p : ParcelNo) : (decideParcel s p).ee = s.ee := by
  unfold decideParcel
  split
  · rfl
  · split
    · simp [refuseParcel]
    · rfl

@[simp] theorem decideTerm_ee (q : TermPos) : (decideTerm s q).ee = s.ee := by
  have refused (c : Copy TermDecl) (why : RejectReason) : (refuseTerm q c why s).ee = s.ee := by simp [refuseTerm]
  unfold decideTerm
  split
  · rfl
  · split
    · rfl
    · split
      · exact refused _ _
      · split
        · split
          · rfl
          · exact refused _ _
        · exact refused _ _

/-- An owner's decision leaves the engine as it is. -/
@[simp] theorem decideOffer_ee (o : Offer) : (decideOffer s o).ee = s.ee := by
  cases o with
  | meter k => cases h : s.meter? k <;> simp [decideOffer, h]
  | tank k => cases h : s.tank? k <;> simp [decideOffer, h]
  | parcel p => exact decideParcel_ee p
  | term q => exact decideTerm_ee q

@[simp] theorem recomputeHold_ee (n : Snapshot) (p : ParcelNo) : (recomputeHold n s p).ee = s.ee := by
  unfold recomputeHold
  split <;> rfl

@[simp] theorem computeVolume_ee (n : Snapshot) (e : TankSnap) : (computeVolume n s e).ee = s.ee := by
  unfold computeVolume
  cases s.tank? e.key <;> rfl

@[simp] theorem attributeFlow_ee (r : MeterRec) (w : MeterWork) (reading : MeterReading) (factor delta : Nat)
    (named : List ParcelNo) : (attributeFlow r w reading factor delta named s).ee = s.ee := by
  unfold attributeFlow
  split
  · simp [creditUnrouted]
  · split
    · rfl
    · simp [creditUnrouted]
  · simp [creditConflict]

@[simp] theorem consume_ee (n : Snapshot) (r : MeterRec) (w : MeterWork) (e : MeterSnap) :
    (consume n r w e s).ee = s.ee := by
  unfold consume
  split
  · rfl
  · rfl
  · dsimp only
    split
    · rfl
    · split
      · simp [meterBreak]
      · split
        · rfl
        · exact attributeFlow_ee _ _ _ _ _ _

@[simp] theorem consumeMeter_ee (n : Snapshot) (e : MeterSnap) : (consumeMeter n s e).ee = s.ee := by
  unfold consumeMeter
  split
  · rfl
  · split
    · rfl
    · exact consume_ee _ _ _ _

@[simp] theorem applyOpen_ee (n : Snapshot) (p : ParcelNo) (expected : Byte) :
    (applyOpen n p expected s).ee = s.ee := by
  unfold applyOpen
  split
  · simp
  · rfl

@[simp] theorem applyClose_ee (p : ParcelNo) (expected : Byte) : (applyClose p expected s).ee = s.ee := by
  unfold applyClose
  split <;> simp

@[simp] theorem applyRelease_ee (p : ParcelNo) (expected : Byte) : (applyRelease p expected s).ee = s.ee := by
  unfold applyRelease
  split
  · rfl
  · rfl
  · rfl
  · simp

@[simp] theorem applyMark_ee (n : Snapshot) (p : ParcelNo) : (applyMark n s p).ee = s.ee := by
  unfold applyMark
  split
  · rfl
  · dsimp only
    split
    · unfold applyKind
      split <;> simp
    · unfold refuseRevision
      split <;> simp

/-! ### Stages 3 to 5 -/

theorem acts_recomputeHold (n : Snapshot) (p : ParcelNo) : Acts s (recomputeHold n s p) := by
  unfold recomputeHold
  split
  · next h => exact (RecordAct.parcel (.recomputed _ h)).acts
  · exact .refl

/-- A meter's working fields replaced in a record that stands, within the ranges of R59. -/
theorem acts_putWork {k : Key} {r : MeterRec} {w : MeterWork} (found : s.meter? k = some r) (hw : r.work = some w)
    {v : MeterWork} (hv : MeterSound w → MeterSound v) : RecordAct s (putWork r v s) := by
  have change := MeterChange.work (r := r) (fun _ => v) (fun x hx h => by rw [hw] at hx; cases hx; exact hv h)
  rw [hw] at change
  exact .meter found change

theorem accumulate_le (a d : Nat) : accumulate a d ≤ maxAccumulator := Nat.min_le_right _ _

theorem acts_queueAlertTimes (cause : Cause) (subject : Subject) (value : Int) (n : Nat) (t : State)
    (h : Acts s t) : Acts s (queueAlertTimes cause subject value n t) := by
  induction n generalizing t with
  | zero => exact h
  | succ n ih => exact ih _ (h.queue (.alert _ _ _))

section Flow

variable {k : Key} {r : MeterRec} {w : MeterWork} (found : s.meter? k = some r) (hw : r.work = some w)
include found hw

theorem acts_creditUnrouted (cumulative : BitVec 24) (delta : Nat) :
    Acts s (creditUnrouted r w cumulative delta s) := by
  refine acts_queueAlertTimes _ _ _ _ _ (acts_putWork found hw ?_).acts
  rintro ⟨hlo, hhi, hres, -, hrouted, hconflict, -⟩
  exact ⟨hlo, hhi, hres, Nat.mod_lt _ (by decide), hrouted, hconflict, accumulate_le _ _⟩

theorem acts_creditConflict (cumulative : BitVec 24) (delta : Nat) (named : List ParcelNo) :
    Acts s (creditConflict r w cumulative delta named s) := by
  refine (acts_putWork found hw ?_).acts.queue (.alert _ _ _)
  rintro ⟨hlo, hhi, hres, hsince, hrouted, -, hunrouted⟩
  exact ⟨hlo, hhi, hres, hsince, hrouted, accumulate_le _ _, hunrouted⟩

theorem acts_creditParcel (reading : MeterReading) (factor delta : Nat) (p : ParcelNo) :
    Acts s (creditParcel r w reading factor delta p s) := by
  refine (acts_putWork found hw ?_).acts.record (.parcel (.credited _ _))
  rintro ⟨hlo, hhi, -, hsince, -, hconflict, hunrouted⟩
  exact ⟨hlo, hhi, meterIncrement_residue_lt _ _ _ _, hsince, accumulate_le _ _, hconflict, hunrouted⟩

theorem acts_attributeFlow (reading : MeterReading) (factor delta : Nat) (named : List ParcelNo) :
    Acts s (attributeFlow r w reading factor delta named s) := by
  unfold attributeFlow
  split
  · exact acts_creditUnrouted found hw _ _
  · split
    · exact acts_creditParcel found hw _ _ _ _
    · exact acts_creditUnrouted found hw _ _
  · exact acts_creditConflict found hw _ _ _

theorem acts_meterDefer (terms : List Term) : Acts s (meterDefer r w terms s) := by
  have deferred : Acts s (putWork r { w with deferred := true } s) := RecordAct.acts (acts_putWork found hw (by exact id))
  refine deferred.record (.parcels _ fun p => ?_)
  rw [mapPlaces_get]
  split
  · exact .held _
  · exact .same

theorem acts_settled (baseline : Option (BitVec 24)) : Acts s (putWork r (w.settled baseline) s) :=
  RecordAct.acts (acts_putWork found hw (by exact id))

theorem acts_meterBreak (cumulative : BitVec 24) (delta : Nat) : Acts s (meterBreak r w cumulative delta s) :=
  (RecordAct.acts (acts_putWork found hw (by exact id))).queue (.alert _ _ _)

theorem acts_consume (n : Snapshot) (e : MeterSnap) : Acts s (consume n r w e s) := by
  unfold consume
  split
  · exact acts_settled found hw _
  · exact acts_settled found hw _
  · dsimp only
    split
    · exact acts_settled found hw _
    · split
      · exact acts_meterBreak found hw _ _
      · split
        · exact acts_meterDefer found hw _
        · exact acts_attributeFlow found hw _ _ _ _

end Flow

theorem acts_consumeMeter (n : Snapshot) (e : MeterSnap) : Acts s (consumeMeter n s e) := by
  unfold consumeMeter
  split
  · exact .refl
  · next r found =>
    split
    · exact .refl
    · next w hw => exact acts_consume found hw n e

/-! ### Stage 6 -/

theorem acts_refuseOpen (p : ParcelNo) (expected : Byte) (why : OpenReason) :
    QueueAct s (refuseOpen p expected why s) :=
  .alert _ _ _

theorem acts_closeParcel {p : ParcelNo} (h : s.parcels[p].state.working = true) (d : Int) (whileHeld : Bool) :
    Acts s (closeParcel p d whileHeld s) :=
  (RecordAct.parcel (.closed _ h)).acts.queue (.alert _ _ _)

theorem acts_applyOpen {n : Snapshot} (stage : s.ee.pass = .running .marks) (held : s.ee.snapshot = some n)
    (p : ParcelNo) (expected : Byte) : Acts s (applyOpen n p expected s) := by
  unfold applyOpen
  split
  · exact (acts_refuseOpen _ _ _).acts
  · next h => exact (RecordAct.openNow stage held h).acts

theorem acts_applyClose (p : ParcelNo) (expected : Byte) : Acts s (applyClose p expected s) := by
  unfold applyClose
  split
  · exact (RecordAct.parcel (.flags s.parcels[p].saturation s.parcels[p].excursion s.parcels[p].peerDiverge true)).acts
  · next h => exact acts_closeParcel (by rw [h]; rfl) _ _
  · exact (QueueAct.planReject _ _ _).acts

theorem acts_releaseNow (p : ParcelNo) : Acts s (releaseNow p s) :=
  ((RecordAct.release p).acts.record (.uncredit p)).record (.dropPeers _) |>.queue acts_driveAlertN

theorem acts_applyRelease (p : ParcelNo) (expected : Byte) : Acts s (applyRelease p expected s) := by
  unfold applyRelease
  split
  · exact acts_releaseNow p
  · exact acts_releaseNow p
  · exact .refl
  · exact (QueueAct.planReject _ _ _).acts

theorem acts_applyMark {n : Snapshot} (stage : s.ee.pass = .running .marks) (held : s.ee.snapshot = some n)
    (p : ParcelNo) : Acts s (applyMark n s p) := by
  unfold applyMark
  split
  · exact .refl
  · next m _ =>
    dsimp only
    have gone : RecordAct s (s.putParcel p { s.parcels[p] with inHand := none }) :=
      .parcel (.marks s.parcels[p].pendingMark none)
    refine gone.acts.trans ?_
    split
    · unfold applyKind
      split
      · exact acts_applyOpen (by exact stage) (by exact held) _ _
      · exact acts_applyClose _ _
      · exact acts_applyRelease _ _
    · unfold refuseRevision
      split
      · exact (acts_refuseOpen _ _ _).acts
      · exact (QueueAct.planReject _ _ _).acts

/-! ### Stage 7 -/

theorem acts_carryOut (p : ParcelNo) (d : Int) : Acts s (carryOut p d s) := by
  unfold carryOut
  split
  · exact .refl
  · exact (RecordAct.parcel (.held _)).acts
  · exact (QueueAct.alert _ _ _).acts
  · exact (QueueAct.alert _ _ _).acts

theorem acts_latch (p : ParcelNo) (d : Int) : Acts s (latch p d s) := by
  have latched : RecordAct s (s.putParcel p { s.parcels[p] with excursion := true }) :=
    .parcel (.flags s.parcels[p].saturation true s.parcels[p].peerDiverge s.parcels[p].closing)
  exact ((latched.acts.queue acts_driveAlertN).queue (.alert _ _ _)).trans (acts_carryOut _ _)

theorem acts_toleranceStep (p : ParcelNo) (excursive : Bool) (d : Int) : Acts s (toleranceStep p excursive d s) := by
  have counted : RecordAct s
      (s.putParcel p { s.parcels[p] with count := steppedCount excursive s.parcels[p].count s.parcels[p].depth }) :=
    .parcel (.stepped _)
  unfold toleranceStep
  dsimp only
  split
  · exact counted.acts.trans (acts_latch _ _)
  · exact counted.acts

/-! ### The bus -/

theorem acts_startBit : Acts s (startBit s) := by
  unfold startBit
  split
  · exact (QueueAct.quiet _ _ _ _ _ _ _).acts
  · exact .refl

theorem acts_becomeIdle : Acts s (becomeIdle s) := by
  unfold becomeIdle
  split
  · exact (QueueAct.quiet _ _ _ _ _ _ _).acts.queue .offer
  · exact .refl

theorem acts_loseArbitration : Acts s (loseArbitration s) := by
  unfold loseArbitration
  split
  · exact QueueAct.returned.acts.queue (.quiet _ _ _ _ _ _ _)
  · exact .refl

theorem acts_completeIdentifier : Acts s (completeIdentifier s) := by
  unfold completeIdentifier
  split
  · exact (QueueAct.quiet _ _ _ _ _ _ _).acts
  · exact .refl

theorem acts_goMute : QueueAct s (goMute s) := .quiet _ _ _ _ _ _ _

theorem acts_clashOnReadback : Acts s (clashOnReadback s) := by
  unfold clashOnReadback
  split
  · exact QueueAct.returned.acts.queue acts_goMute
  · exact .refl

end Sys2Proof.Laws
end

section
/-! SUPPORT. No act on a record reads how far the pass has come: it does the same with the pass at another stage or
another place in its records (R109). -/

namespace Sys2Proof.Laws

open Machine Safety

/-- The state with the pass at a place in the records of a stage. -/
def atPlace (pass : PassState) (n : Nat) (s : State) : State :=
  { s with ee := { s.ee with pass := pass, visited := n } }

variable (g : PassState) (n : Nat) (s : State)

@[simp] theorem atPlace_same : atPlace s.ee.pass s.ee.visited s = s := rfl

@[simp] theorem atPlace_atPlace (g' : PassState) (n' : Nat) : atPlace g n (atPlace g' n' s) = atPlace g n s := rfl

theorem reach_eq_atPlace : reach n s = atPlace s.ee.pass n s := rfl

theorem toStage_eq_atPlace (next : Stage) : toStage next s = atPlace (.running next) 0 s := rfl

@[simp] theorem atPlace_parcels : (atPlace g n s).parcels = s.parcels := rfl
@[simp] theorem atPlace_ee : (atPlace g n s).ee = { s.ee with pass := g, visited := n } := rfl
@[simp] theorem atPlace_tank? (k : Key) : (atPlace g n s).tank? k = s.tank? k := rfl
@[simp] theorem atPlace_meter? (k : Key) : (atPlace g n s).meter? k = s.meter? k := rfl

/-! ### Alerts -/

theorem offer_atPlace :
    atPlace g n (offer s) = offer (atPlace g n s) := by
  unfold offer
  rw [show mayOffer (atPlace g n s) = mayOffer s from rfl, show (atPlace g n s).slots = s.slots from rfl]
  split <;> [split; skip] <;> rfl

theorem loadSlot_atPlace (i : Fin 4) (f : TxFrame) :
    atPlace g n (loadSlot i f s) = loadSlot i f (atPlace g n s) := by
  unfold loadSlot
  rw [show (atPlace g n s).slots = s.slots from rfl]
  split
  · exact offer_atPlace g n _
  · rfl

theorem queueAlert_atPlace (cause : Cause) (subject : Subject) (value : Int) :
    atPlace g n (queueAlert cause subject value s) = queueAlert cause subject value (atPlace g n s) := by
  unfold queueAlert
  rw [show (atPlace g n s).aq = s.aq from rfl, show (atPlace g n s).sr = s.sr from rfl]
  dsimp only
  split
  · exact loadSlot_atPlace g n _ _ _
  · split <;> [skip; split] <;> [skip; skip; split] <;> rfl

theorem queueAlertTimes_atPlace (cause : Cause) (subject : Subject) (value : Int) (times : Nat) :
    atPlace g n (queueAlertTimes cause subject value times s)
      = queueAlertTimes cause subject value times (atPlace g n s) := by
  induction times generalizing s with
  | zero => rfl
  | succ times ih => exact (ih _).trans (congrArg _ (queueAlert_atPlace g n s _ _ _))

theorem planReject_atPlace (subject : Subject) (rev : Byte) (why : RejectReason) :
    atPlace g n (planReject subject rev why s) = planReject subject rev why (atPlace g n s) :=
  queueAlert_atPlace g n s _ _ _

theorem closeParcel_atPlace (p : ParcelNo) (d : Int) (whileHeld : Bool) :
    atPlace g n (closeParcel p d whileHeld s) = closeParcel p d whileHeld (atPlace g n s) :=
  queueAlert_atPlace g n _ _ _ _

/-! ### Stage 1 -/

/-! ### Stages 3 to 5 -/

theorem recomputeHold_atPlace (x : Snapshot) (p : ParcelNo) :
    atPlace g n (recomputeHold x s p) = recomputeHold x (atPlace g n s) p := by
  unfold recomputeHold
  rw [atPlace_parcels]
  split <;> rfl

theorem computeVolume_atPlace (x : Snapshot) (e : TankSnap) :
    atPlace g n (computeVolume x s e) = computeVolume x (atPlace g n s) e := by
  unfold computeVolume
  rw [atPlace_tank?]
  cases s.tank? e.key <;> rfl

theorem creditUnrouted_atPlace (r : MeterRec) (w : MeterWork) (cumulative : BitVec 24) (delta : Nat) :
    atPlace g n (creditUnrouted r w cumulative delta s) = creditUnrouted r w cumulative delta (atPlace g n s) :=
  queueAlertTimes_atPlace g n _ _ _ _ _

theorem attributeFlow_atPlace (r : MeterRec) (w : MeterWork) (reading : MeterReading) (factor delta : Nat)
    (named : List ParcelNo) :
    atPlace g n (attributeFlow r w reading factor delta named s)
      = attributeFlow r w reading factor delta named (atPlace g n s) := by
  unfold attributeFlow
  rw [atPlace_parcels]
  split
  · exact creditUnrouted_atPlace g n s _ _ _ _
  · split
    · rfl
    · exact creditUnrouted_atPlace g n s _ _ _ _
  · exact queueAlert_atPlace g n _ _ _ _

theorem consume_atPlace (x : Snapshot) (r : MeterRec) (w : MeterWork) (e : MeterSnap) :
    atPlace g n (consume x r w e s) = consume x r w e (atPlace g n s) := by
  unfold consume
  rw [show termsOfMeter (atPlace g n s) = termsOfMeter s from rfl]
  split
  · rfl
  · rfl
  · dsimp only
    split
    · rfl
    · split
      · exact queueAlert_atPlace g n _ _ _ _
      · split
        · rfl
        · exact attributeFlow_atPlace g n s _ _ _ _ _ _

theorem consumeMeter_atPlace (x : Snapshot) (e : MeterSnap) :
    atPlace g n (consumeMeter x s e) = consumeMeter x (atPlace g n s) e := by
  unfold consumeMeter
  rw [atPlace_meter?]
  split
  · rfl
  · split
    · rfl
    · exact consume_atPlace g n s x _ _ _

/-! ### Stages 6 and 7 -/

theorem applyOpen_atPlace (x : Snapshot) (p : ParcelNo) (expected : Byte) :
    atPlace g n (applyOpen x p expected s) = applyOpen x p expected (atPlace g n s) := by
  unfold applyOpen
  rw [show openRefusal x (atPlace g n s) = openRefusal x s from rfl]
  split
  · exact queueAlert_atPlace g n _ _ _ _
  · rfl

theorem applyClose_atPlace (p : ParcelNo) (expected : Byte) :
    atPlace g n (applyClose p expected s) = applyClose p expected (atPlace g n s) := by
  unfold applyClose
  rw [atPlace_parcels]
  split
  · rfl
  · exact closeParcel_atPlace g n s _ _ _
  · exact planReject_atPlace g n s _ _ _

theorem applyRelease_atPlace (p : ParcelNo) (expected : Byte) :
    atPlace g n (applyRelease p expected s) = applyRelease p expected (atPlace g n s) := by
  unfold applyRelease
  rw [atPlace_parcels]
  split
  · rfl
  · rfl
  · rfl
  · exact planReject_atPlace g n s _ _ _

theorem applyMark_atPlace (x : Snapshot) (p : ParcelNo) :
    atPlace g n (applyMark x s p) = applyMark x (atPlace g n s) p := by
  unfold applyMark
  rw [atPlace_parcels]
  split
  · rfl
  · next m _ =>
    dsimp only
    split
    · unfold applyKind
      split
      · exact applyOpen_atPlace g n _ _ _ _
      · exact applyClose_atPlace g n _ _ _
      · exact applyRelease_atPlace g n _ _ _
    · unfold refuseRevision
      split <;> exact queueAlert_atPlace g n _ _ _ _

theorem carryOut_atPlace (p : ParcelNo) (d : Int) :
    atPlace g n (carryOut p d s) = carryOut p d (atPlace g n s) := by
  unfold carryOut
  rw [atPlace_parcels, show (atPlace g n s).sr = s.sr from rfl]
  split
  · rfl
  · rfl
  · exact queueAlert_atPlace g n _ _ _ _
  · exact queueAlert_atPlace g n _ _ _ _

theorem latch_atPlace (p : ParcelNo) (d : Int) :
    atPlace g n (latch p d s) = latch p d (atPlace g n s) := by
  unfold latch
  exact (carryOut_atPlace g n _ _ _).trans (congrArg _ (queueAlert_atPlace g n _ _ _ _))

theorem toleranceStep_atPlace (p : ParcelNo) (excursive : Bool) (d : Int) :
    atPlace g n (toleranceStep p excursive d s) = toleranceStep p excursive d (atPlace g n s) := by
  unfold toleranceStep
  rw [atPlace_parcels]
  dsimp only
  split
  · exact latch_atPlace g n _ _ _
  · rfl

theorem evaluateActive_atPlace (p : ParcelNo) (d : ParcelDecl) :
    atPlace g n (evaluateActive p d s) = evaluateActive p d (atPlace g n s) := by
  unfold evaluateActive
  rw [atPlace_parcels, show evaluation (atPlace g n s) p d = evaluation s p d from rfl]
  dsimp only
  have stepped := toleranceStep_atPlace g n (keepEvaluated p (evaluation s p d).figures
    (s.putParcel p { s.parcels[p] with saturation := (evaluation s p d).figures.saturated })) p
    (evaluation s p d).excursive (evaluation s p d).figures.d
  split
  · exact (closeParcel_atPlace g n _ _ _ _).trans (congrArg _ stepped)
  · exact stepped

theorem evaluateParcel_atPlace (p : ParcelNo) :
    atPlace g n (evaluateParcel s p) = evaluateParcel (atPlace g n s) p := by
  unfold evaluateParcel
  rw [atPlace_parcels]
  split
  · exact evaluateActive_atPlace g n s _ _
  · split
    · exact closeParcel_atPlace g n s _ _ _
    · rfl
  · rfl

end Sys2Proof.Laws
end

section
/-! SUPPORT. A stage carried on by one record, as a chain of acts, and with it every command and every step. -/

namespace Sys2Proof.Laws

open Machine Safety

variable {s : State}

/-! ### Stage 7 -/

@[simp] theorem carryOut_ee (p : ParcelNo) (d : Int) : (carryOut p d s).ee = s.ee := by
  unfold carryOut
  split <;> simp

@[simp] theorem toleranceStep_ee (p : ParcelNo) (excursive : Bool) (d : Int) :
    (toleranceStep p excursive d s).ee = s.ee := by
  unfold toleranceStep
  dsimp only
  split <;> simp [latch]

theorem addHold_working {r : ParcelRec} (add : HoldSet → HoldSet) (h : r.state.working = true) :
    (r.addHold add).state.working = true := by
  unfold ParcelRec.addHold
  rw [if_pos h]
  rfl

theorem carryOut_working {p : ParcelNo} (d : Int) (h : s.parcels[p].state.working = true) :
    (carryOut p d s).parcels[p].state.working = true := by
  unfold carryOut
  split
  · exact h
  · simpa using addHold_working _ h
  · simpa using h
  · simpa using h

/-- A tolerance step leaves a parcel ACTIVE or HELD. -/
theorem toleranceStep_working {p : ParcelNo} (excursive : Bool) (d : Int) (h : s.parcels[p].state.working = true) :
    (toleranceStep p excursive d s).parcels[p].state.working = true := by
  unfold toleranceStep
  dsimp only
  split
  · refine carryOut_working d ?_
    simpa using h
  · simpa using h

/-- The evaluated set is all that stage 7 changes of the engine. -/
theorem evaluateParcel_ee (p : ParcelNo) : ∃ v, (evaluateParcel s p).ee = { s.ee with evaluated := v } := by
  unfold evaluateParcel
  split
  · unfold evaluateActive
    dsimp only
    split
    · exact ⟨_, by rw [closeParcel_ee, toleranceStep_ee]; rfl⟩
    · exact ⟨_, by rw [toleranceStep_ee]; rfl⟩
  · split
    · exact ⟨s.ee.evaluated, by rw [closeParcel_ee]⟩
    · exact ⟨_, rfl⟩
  · exact ⟨_, rfl⟩

theorem acts_evaluateParcel {p : ParcelNo} (stage : s.ee.pass = .running .figures) (h : p.val < s.ee.visited) :
    Acts s (evaluateParcel s p) := by
  unfold evaluateParcel
  split
  · next hactive _ =>
    unfold evaluateActive
    dsimp only
    generalize evaluation s p _ = ev
    have marked : RecordAct s (s.putParcel p { s.parcels[p] with saturation := ev.figures.saturated }) :=
      .parcel (.flags ev.figures.saturated s.parcels[p].excursion s.parcels[p].peerDiverge s.parcels[p].closing)
    have stepped := (marked.acts.record (.keep ev.figures (by exact stage) (by exact h))).trans
      (acts_toleranceStep p ev.excursive ev.figures.d)
    split
    · refine stepped.trans (acts_closeParcel (toleranceStep_working _ _ ?_) _ _)
      show ((s.putParcel p _).parcels[p]).state.working = true
      rw [putParcel_get_self, hactive]
      rfl
    · exact stepped
  · next hheld =>
    split
    · exact acts_closeParcel (by rw [hheld]; rfl) _ _
    · exact .refl
  · exact .refl

/-! ### One record of a stage -/

/-- A stage carried on by one record is a chain of acts where the record's part is one that leaves the stage and the
snapshot as they are. -/
theorem acts_dealNext {α : Type} {g next : Stage} {left : State → List α} {act : State → α → State}
    (stage : s.ee.pass = .running g) (follows : Follows g next)
    (ends : g = .tankVolumes → ∀ t, t.ee.snapshot = s.ee.snapshot → left t = [] →
      ∀ n ∈ t.ee.snapshot, n.tanks.length ≤ t.ee.visited)
    (h : ∀ x ∈ left s, Acts s (act s x) ∧ (act s x).ee.pass = s.ee.pass ∧ (act s x).ee.snapshot = s.ee.snapshot) :
    Acts s (dealNext next left act s) := by
  rcases dealNext_cases next left act s with ⟨hnone, e⟩ | ⟨x, rest, hleft, ⟨hlast, e⟩ | ⟨-, e⟩⟩ <;> rw [e]
  · exact (RecordAct.advance stage follows fun hg => ends hg s rfl hnone).acts
  · obtain ⟨acts, pass, snapshot⟩ := h x (by simp [hleft])
    exact acts.record (.advance (pass.trans stage) follows fun hg => ends hg _ snapshot hlast)
  · exact (h x (by simp [hleft])).1

theorem acts_offerCopy (stage : s.ee.pass = .running .handOver) : Acts s (offerCopy s) :=
  acts_dealNext stage .handOver (by rintro ⟨⟩) fun o _ => ⟨acts_decideOffer stage o, by simp, by simp⟩

/-- A parcel that a stage has still to deal with stands where the stage has come or after it. -/
theorem visited_le_of_mem_parcelsLeft {takes : ParcelRec → Bool} {p : ParcelNo} (h : p ∈ parcelsLeft takes s) :
    s.ee.visited ≤ p.val := by
  simp only [parcelsLeft, List.mem_filter, Bool.and_eq_true, decide_eq_true_eq] at h
  exact h.2.1

/-- A parcel dealt with by a stage that counts, as a chain of acts. -/
theorem acts_dealParcel {g next : Stage} {takes : ParcelRec → Bool} {act : State → ParcelNo → State}
    (stage : s.ee.pass = .running g) (counts : countsVisits (.running g) = true) (volumes : g ≠ .tankVolumes)
    (follows : Follows g next) (h : ∀ p, Acts s (act s p) ∧ (act s p).ee = s.ee) :
    Acts s (dealNext next (parcelsLeft takes) (dealParcel act) s) := by
  refine acts_dealNext stage follows (fun hg => absurd hg volumes) fun p hp => ?_
  obtain ⟨acts, ee⟩ := h p
  refine ⟨acts.record (.reach ?_ ?_ ?_), congrArg (·.pass) ee, congrArg (·.snapshot) ee⟩
  · rw [ee, stage, counts]
  · rw [ee, stage]
    simpa using volumes
  · rw [ee]
    exact Nat.le_succ_of_le (visited_le_of_mem_parcelsLeft hp)

variable {n : Snapshot}

theorem acts_recomputeNext (stage : s.ee.pass = .running .holdCauses) : Acts s (recomputeNext n s) :=
  acts_dealParcel stage rfl (by decide) .holdCauses fun p => ⟨acts_recomputeHold n p, recomputeHold_ee n p⟩

theorem acts_markNext (stage : s.ee.pass = .running .marks) (held : s.ee.snapshot = some n) : Acts s (markNext n s) :=
  acts_dealParcel stage rfl (by decide) .marks fun p => ⟨acts_applyMark stage held p, applyMark_ee n p⟩

theorem head_drop_get {α : Type} {l rest : List α} {i : Nat} {x : α} (h : l.drop i = x :: rest) : l[i]? = some x := by
  rw [← List.head?_drop, h]
  rfl

theorem acts_computeNext (stage : s.ee.pass = .running .tankVolumes) (held : s.ee.snapshot = some n) :
    Acts s (computeNext n s) := by
  have ends {t : State} (hs : t.ee.snapshot = s.ee.snapshot) (hleft : n.tanks.drop t.ee.visited = []) :
      ∀ m ∈ t.ee.snapshot, m.tanks.length ≤ t.ee.visited := by
    rw [hs, held]
    rintro m ⟨⟩
    exact List.drop_eq_nil_iff.1 hleft
  rcases dealNext_cases .meterFlow (fun t => n.tanks.drop t.ee.visited) (dealEntry (computeVolume n)) s with
    ⟨hnone, e⟩ | ⟨x, rest, hleft, ⟨hlast, e⟩ | ⟨-, e⟩⟩ <;> rw [computeNext, e]
  · exact (RecordAct.advance stage .tankVolumes fun _ => ends rfl hnone).acts
  · refine (RecordAct.volume stage held (head_drop_get hleft)).acts.record (.advance ?_ .tankVolumes fun _ => ?_)
    · show (computeVolume n s x).ee.pass = _
      rw [computeVolume_ee, stage]
    · refine ends ?_ hlast
      show (computeVolume n s x).ee.snapshot = _
      rw [computeVolume_ee]
  · exact (RecordAct.volume stage held (head_drop_get hleft)).acts

theorem acts_consumeNext (stage : s.ee.pass = .running .meterFlow) : Acts s (consumeNext n s) := by
  refine acts_dealNext stage .meterFlow (by rintro ⟨⟩) fun e _ => ?_
  refine ⟨(acts_consumeMeter n e).record (.reach ?_ ?_ ?_), ?_, ?_⟩
  · rw [consumeMeter_ee, stage]
    rfl
  · rw [consumeMeter_ee, stage]
    simp
  · rw [consumeMeter_ee]
    exact Nat.le_succ _
  · show (consumeMeter n s e).ee.pass = _
    rw [consumeMeter_ee]
  · show (consumeMeter n s e).ee.snapshot = _
    rw [consumeMeter_ee]

theorem acts_evaluateNext (stage : s.ee.pass = .running .figures) : Acts s (evaluateNext s) := by
  refine acts_dealNext stage .figures (by rintro ⟨⟩) fun p hp => ?_
  obtain ⟨v, ee⟩ := evaluateParcel_ee (s := s) p
  have reached : RecordAct s (reach (p.val + 1) s) := by
    refine .reach ?_ ?_ (Nat.le_succ_of_le (visited_le_of_mem_parcelsLeft hp)) <;> simp [stage, countsVisits]
  refine ⟨?_, ?_, ?_⟩
  · have placed : dealParcel evaluateParcel s p = evaluateParcel (reach (p.val + 1) s) p := by
      have pass : (evaluateParcel s p).ee.pass = s.ee.pass := by rw [ee]
      show reach _ (evaluateParcel s p) = _
      rw [reach_eq_atPlace, pass]
      exact evaluateParcel_atPlace _ _ s p
    rw [placed]
    exact reached.acts.trans (acts_evaluateParcel (by exact stage) (Nat.lt_succ_self _))
  · show (evaluateParcel s p).ee.pass = _
    rw [ee]
  · show (evaluateParcel s p).ee.snapshot = _
    rw [ee]

theorem acts_atStage {g : Stage} {work : State → State} (h : s.ee.pass = .running g → Acts s (work s)) :
    Acts s (atStage g work s) := by
  unfold atStage
  split
  · next hg => exact h hg
  · exact .refl

theorem acts_withSnapshot {work : Snapshot → State → State} (h : ∀ n, s.ee.snapshot = some n → Acts s (work n s)) :
    Acts s (withSnapshot work s) := by
  unfold withSnapshot
  split
  · next n hn => exact h n hn
  · exact .refl

/-- The completion of a pass is its end, the signal to T1, and the begin of a pending one (R108). -/
theorem acts_completePass (stage : s.ee.pass = .running .publication) : Acts s (completePass (publishAll s)) := by
  have ended : Acts s (countEvent 1 (endPass s)) := (RecordAct.complete stage).acts.queue (acts_mapTimer _ _)
  by_cases hp : s.ee.pending
  · have begun : completePass (publishAll s) = beginPass (countEvent 1 (endPass s)) := if_pos hp
    exact begun ▸ ended.record (.begins rfl)
  · have idle : completePass (publishAll s) = countEvent 1 (endPass s) := by
      rw [Bool.not_eq_true] at hp
      exact (if_neg (by simp [hp])).trans (by rw [endPass, ← hp]; rfl)
    exact idle ▸ ended

/-! ### Every command -/

theorem acts_changeEsdInput (level : EsdLevel) : QueueAct s (changeEsdInput level s) := .quiet _ _ _ _ _ _ _

theorem acts_judged : QueueAct s (judged s) := .quiet _ _ _ _ _ _ _

theorem acts_tickAll : QueueAct s (tickAll s) := .quiet _ _ _ _ _ _ _

/-! Nothing that falls due tells an owner of a frame sent. -/

theorem zeroEvent_told {work : State → State} (h : ∀ t, (work t).told = t.told) (i : TimerNo) :
    (zeroEvent i work s).told = s.told := by
  rcases zeroEvent_cases i work s with ⟨-, e⟩ | ⟨-, e⟩ <;> rw [e]
  exact h _

@[simp] theorem requestPass_told : (requestPass s).told = s.told := by
  unfold requestPass
  split
  · rfl
  · split <;> rfl

@[simp] theorem sweep_told : (sweep s).told = s.told :=
  (foldl_field (g := State.told) (fun a _ t => goStale_told t a) _).trans (ageAll_told s)

@[simp] theorem settleZeros_told : (settleZeros s).told = s.told :=
  calc (zero3 (zero2 (zero1 (zero0 s)))).told
    _ = (zero2 (zero1 (zero0 s))).told := zeroEvent_told (fun _ => by simp) 3
    _ = (zero1 (zero0 s)).told := zeroEvent_told (fun _ => by simp) 2
    _ = (zero0 s).told := zeroEvent_told (fun _ => by simp) 1
    _ = s.told := zeroEvent_told (fun _ => by simp) 0

@[simp] theorem assertEsd_told : (assertEsd s).told = s.told := by
  rcases assertEsd_cases s with ⟨-, e⟩ | ⟨-, e⟩ <;> rw [e]
  simp [acceptAssertion, esdAlert]

@[simp] theorem releaseEsd_told : (releaseEsd s).told = s.told := by
  rcases releaseEsd_cases s with ⟨-, e⟩ | ⟨-, e⟩ <;> rw [e]
  unfold acceptRelease
  split <;> simp [esdAlert]

@[simp] theorem stopStagger_told : (stopStagger s).told = s.told := by
  rcases stopStagger_cases s with ⟨-, e⟩ | ⟨-, e⟩ <;> rw [e]
  unfold endStagger
  dsimp only
  split <;> [split; skip] <;> simp

theorem settleOwner_told : (settleOwner s).told = none := by
  unfold settleOwner
  split
  · next i _ =>
    unfold ownerTold
    split <;> simp
  · next h => exact h

theorem settle_told : (settle s).told = none := by
  simp [settle, settleTimed, settleOwner_told]

theorem acts_resetNode (address : Fin 27) (role : Role) (rate : BusRate) (esd : EsdLevel) :
    Acts s (resetNode address role rate esd s) := by
  unfold resetNode
  dsimp only
  have reset : Acts s (State.atResetEnd address role rate esd s.freeIndex s.pending) := .single (.reset _ _ _ _)
  split
  · exact reset.trans acts_queueOwed
  · exact reset

/-- A frame received is a chain of acts after what falls due. -/
theorem acts_settleReceive {k : FrameKind} {f : Frame} {owner : Station → State → State}
    (h : ∀ a t, Acts t (owner a t)) : Acts s (receive k f owner (settle s)) := acts_settle.trans (acts_receive h)

theorem acts_settleStage {g : Stage} {work : State → State} (h : ∀ t, t.ee.pass = .running g → Acts t (work t)) :
    Acts s (atStage g work (settle s)) := acts_settle.trans (acts_atStage (h _))

/-- Every command is a chain of acts. -/
theorem exec_acts (c : Instr) (s : State) : ∃ t, exec c s = .next t ∧ Acts s t := by
  cases c with
  | powerOnReset straps esd => exact ⟨_, rfl, acts_resetNode _ _ _ _⟩
  | resetN esd => exact ⟨_, rfl, acts_resetNode _ _ _ _⟩
  | staggerEnd => exact ⟨_, rfl, QueueAct.owner.acts.trans acts_stopStagger⟩
  | esdInputChange level => exact ⟨_, rfl, acts_settle.queue (acts_changeEsdInput level)⟩
  | esdAssertionAccepted => exact ⟨_, rfl, QueueAct.owner.acts.trans acts_assertEsd⟩
  | esdReleaseAccepted => exact ⟨_, rfl, QueueAct.owner.acts.trans acts_releaseEsd⟩
  | t0Zero => exact ⟨_, rfl, QueueAct.owner.acts.trans acts_zero0⟩
  | t1Zero => exact ⟨_, rfl, QueueAct.owner.acts.trans acts_zero1⟩
  | t2Zero => exact ⟨_, rfl, QueueAct.owner.acts.trans acts_zero2⟩
  | t3Zero => exact ⟨_, rfl, QueueAct.owner.acts.trans acts_zero3⟩
  | handOver => exact ⟨_, rfl, acts_settleStage fun _ => acts_offerCopy⟩
  | snapshot => exact ⟨_, rfl, acts_settleStage fun _ h => (RecordAct.fill h).acts⟩
  | holdCauseRecomputation =>
    exact ⟨_, rfl, acts_settleStage fun _ h => acts_withSnapshot fun _ _ => acts_recomputeNext h⟩
  | standardVolumeComputation =>
    exact ⟨_, rfl, acts_settleStage fun _ h => acts_withSnapshot fun _ hn => acts_computeNext h hn⟩
  | meterConsumption => exact ⟨_, rfl, acts_settleStage fun _ h => acts_withSnapshot fun _ _ => acts_consumeNext h⟩
  | markApplication => exact ⟨_, rfl, acts_settleStage fun _ h => acts_withSnapshot fun _ hn => acts_markNext h hn⟩
  | figureEvaluation => exact ⟨_, rfl, acts_settleStage fun _ => acts_evaluateNext⟩
  | publication => exact ⟨_, rfl, acts_settleStage fun _ => acts_completePass⟩
  | gauge f => exact ⟨_, rfl, acts_settleReceive fun a _ => acts_takeGauge _ a⟩
  | meter f => exact ⟨_, rfl, acts_settleReceive fun a _ => acts_takeMeter _ a⟩
  | valve f => exact ⟨_, rfl, acts_settleReceive fun a _ => acts_takeValve _ a⟩
  | dmeter f => exact ⟨_, rfl, acts_settleReceive fun a _ => acts_arriveMeter _ a⟩
  | dparcel f => exact ⟨_, rfl, acts_settleReceive fun a _ => acts_arriveParcel _ a⟩
  | dtank f => exact ⟨_, rfl, acts_settleReceive fun a _ => acts_arriveTank _ a⟩
  | droute f => exact ⟨_, rfl, acts_settleReceive fun a _ => acts_arriveTerm _ a⟩
  | mark f => exact ⟨_, rfl, acts_settleReceive fun a _ => acts_arriveMark _ a⟩
  | summaryFrame f =>
    exact ⟨_, rfl, acts_settleReceive fun a _ => (acts_heardRole a _).trans (acts_takeSummary _ a)⟩
  | announceFrame f =>
    exact ⟨_, rfl, acts_settleReceive fun a _ => (acts_heardRole a _).trans (acts_takeAnnounce _ a)⟩
  | answerFrame f => exact ⟨_, rfl, acts_settleReceive fun _ _ => .refl⟩
  | alertFrame f => exact ⟨_, rfl, acts_settleReceive fun _ _ => .refl⟩
  | cadenceHalt f => exact ⟨_, rfl, acts_settleReceive fun a _ => acts_takeCadence _ a⟩
  | cadenceNow f => exact ⟨_, rfl, acts_settleReceive fun a _ => acts_takeCadence _ a⟩
  | cadenceResume f => exact ⟨_, rfl, acts_settleReceive fun a _ => acts_takeCadence _ a⟩
  | queryParcel f => exact ⟨_, rfl, acts_settleReceive fun a _ => (QueueAct.query _ a).acts⟩
  | queryTank f => exact ⟨_, rfl, acts_settleReceive fun a _ => (QueueAct.query _ a).acts⟩
  | queryMeter f => exact ⟨_, rfl, acts_settleReceive fun a _ => (QueueAct.query _ a).acts⟩
  | queryTerm f => exact ⟨_, rfl, acts_settleReceive fun a _ => (QueueAct.query _ a).acts⟩
  | queryNode f => exact ⟨_, rfl, acts_settleReceive fun a _ => (QueueAct.query _ a).acts⟩
  | queryTimer f => exact ⟨_, rfl, acts_settleReceive fun a _ => (QueueAct.query _ a).acts⟩
  | badFrame r =>
    refine ⟨_, rfl, acts_settle.trans ?_⟩
    split
    · exact acts_judged.acts
    · exact .refl
  | addressClash r =>
    refine ⟨_, rfl, acts_settle.trans ?_⟩
    split
    · exact acts_judged.acts.queue acts_goMute
    · exact .refl
  | busIdle => exact ⟨_, rfl, acts_settleTimed.trans (acts_becomeIdle.trans QueueAct.owner.acts)⟩
  | lostArbitration => exact ⟨_, rfl, acts_settle.trans acts_loseArbitration⟩
  | readbackClash => exact ⟨_, rfl, acts_settle.trans acts_clashOnReadback⟩
  | frameSent =>
    refine ⟨_, rfl, acts_settle.trans ?_⟩
    split
    · exact (QueueAct.sent settle_told).acts
    · exact .refl
  | referenceTick => exact ⟨_, rfl, acts_settle.queue acts_tickAll⟩
  | identifierComplete => exact ⟨_, rfl, acts_settle.trans acts_completeIdentifier⟩
  | startBit => exact ⟨_, rfl, acts_settle.trans acts_startBit⟩

/-- Every step takes the front of the queue away and is a chain of acts. -/
theorem step_acts (s : State) : ∃ t, step s = .next t ∧ Acts { s with pending := s.pending.tail } t := by
  unfold step
  split
  · next h => exact ⟨s, rfl, by rw [h, List.tail_nil, ← h]⟩
  · next c rest h => simpa [h] using exec_acts c { s with pending := rest }

end Sys2Proof.Laws
end

section
/-! SUPPORT. What each act leaves of the transmit slots: which of them are empty. The queues and the summary round are
sound with their slots act by act (R140, R144, R184, R187 to R191). -/

namespace Sys2Proof.Laws

open Machine Safety

variable {s t : State}

/-! ### Empty slots -/

theorem offered_empty_iff (x : Slot) : x.offered = .empty ↔ x = .empty := by cases x <;> simp [Slot.offered]

theorem returned_empty_iff (x : Slot) : x.returned = .empty ↔ x = .empty := by cases x <;> simp [Slot.returned]

theorem offer_slot_empty (j : Fin 4) : (offer s).slots[j] = .empty ↔ s.slots[j] = .empty := by
  unfold offer
  split
  · split
    · rw [setPlace_get]
      split
      · next h => rw [h, offered_empty_iff]
      · rfl
    · rfl
  · rfl

theorem returnFrame_slot_empty (j : Fin 4) : (returnFrame s).slots[j] = .empty ↔ s.slots[j] = .empty := by
  unfold returnFrame
  rw [mapPlaces_get, returned_empty_iff]

/-- A load fills its slot where the arbiter takes it; where it does not, the slot is full already (R181). -/
theorem loadSlot_slot_empty (i j : Fin 4) (f : TxFrame) :
    (loadSlot i f s).slots[j] = .empty ↔ j ≠ i ∧ s.slots[j] = .empty := by
  unfold loadSlot
  split
  · rw [offer_slot_empty, setPlace_get]
    split <;> simp_all
  · next h =>
    refine ⟨fun he => ⟨?_, he⟩, fun he => he.2⟩
    rintro rfl
    rw [he] at h
    exact h rfl

/-! ### The alert queue -/

/-- Soundness speaks of slot 0, who is told and the records alone. -/
theorem alertQueueSound_of_same (hslot : t.slots[(0 : Fin 4)] = .empty ↔ s.slots[(0 : Fin 4)] = .empty)
    (htold : t.told = s.told) (hrecords : t.aq.records = s.aq.records) (h : AlertQueueSound s) :
    AlertQueueSound t := by
  simpa only [AlertQueueSound, hslot, htold, hrecords] using h

theorem queueAlert_records_ne_nil (cause : Cause) (subject : Subject) (value : Int) :
    (queueAlert cause subject value s).aq.records ≠ [] := by
  rcases queueAlert_cases s cause subject value _ rfl with
    ⟨-, e⟩ | ⟨head, rest, hq, ⟨-, e⟩ | ⟨-, -, e⟩ | ⟨-, -, -, e⟩ | ⟨-, -, -, e⟩⟩ <;> rw [e]
  · simp
  · simp
  · simp
  · simp
  · simp [hq]

/-- An alert loads slot 0 where its queue is empty, and no other slot. -/
theorem queueAlert_slot_empty (cause : Cause) (subject : Subject) (value : Int) (j : Fin 4) :
    (queueAlert cause subject value s).slots[j] = .empty
      ↔ (s.aq.records = [] → j ≠ 0) ∧ s.slots[j] = .empty := by
  rcases queueAlert_cases s cause subject value _ rfl with
    ⟨hq, e⟩ | ⟨head, rest, hq, ⟨-, e⟩ | ⟨-, -, e⟩ | ⟨-, -, -, e⟩ | ⟨-, -, -, e⟩⟩ <;> rw [e]
  · rw [loadSlot_slot_empty]
    simp [hq]
  all_goals simp [hq]

/-- No two records alike, by their keys. -/
theorem pairwise_sameAlert_iff_nodup {l : List AlertRec} :
    l.Pairwise (fun a b => sameAlert a b = false) ↔ (l.map alertKey).Nodup := by
  simp only [sameAlert_false_iff_key, List.Nodup, List.pairwise_map]

theorem alertQueueSound_alert (cause : Cause) (subject : Subject) (value : Int) (h : AlertQueueSound s) :
    AlertQueueSound (queueAlert cause subject value s) := by
  obtain ⟨hlength, hpair, hslot, htold⟩ := h
  obtain ⟨hlength', hnodup⟩ :=
    queueAlert_keeps_sound cause subject value hlength (pairwise_sameAlert_iff_nodup.mp hpair)
  refine ⟨hlength', pairwise_sameAlert_iff_nodup.mpr hnodup, ?_, fun _ => queueAlert_records_ne_nil _ _ _⟩
  rw [queueAlert_slot_empty, hslot, queueAlert_told]
  simp only [queueAlert_records_ne_nil, false_or]
  by_cases hnil : s.aq.records = []
  · simpa [hnil] using fun h0 => htold h0 hnil
  · simp [hnil]

/-- The queue's act on its frame's sending: the head goes, and the next head fills the slot (R189). -/
theorem alertQueueSound_alertSent (htold : s.told = none) (hslot : s.slots[(0 : Fin 4)] = .empty)
    (hlength : s.aq.records.length ≤ 16) (hpair : s.aq.records.Pairwise fun a b => sameAlert a b = false)
    (hne : s.aq.records ≠ []) : AlertQueueSound (alertSent s) := by
  unfold alertSent
  split
  · next hq => exact absurd hq hne
  · simp [AlertQueueSound, htold, hslot]
  · next a b rest hq =>
    rw [hq] at hlength hpair
    simp only [AlertQueueSound, loadSlot_aq, loadSlot_told, loadSlot_slot_empty, htold]
    exact ⟨Nat.le_of_succ_le hlength, (List.pairwise_cons.1 hpair).2, by simp⟩

/-! ### The query queue -/

theorem queryQueueSound_of_same (hslot : t.slots[(1 : Fin 4)] = .empty ↔ s.slots[(1 : Fin 4)] = .empty)
    (htold : t.told = s.told) (hqueue : t.qq = s.qq) (h : QueryQueueSound s) : QueryQueueSound t := by
  simpa only [QueryQueueSound, hslot, htold, hqueue] using h

/-- The lengths of an answer's contents (Table 11-2). -/
def contentLengths : QueryKind → List Nat
  | .parcel => [13, 13, 12]
  | .tank => [13]
  | .meter => [13, 13]
  | .term => [13]
  | .node => [13]
  | .timer => [5]

theorem unsignedBytes_length (k v : Nat) : (unsignedBytes k v).length = k := by
  induction k generalizing v with
  | zero => rfl
  | succ k ih => simp [unsignedBytes, ih]

theorem signedBytes_length (k : Nat) (v : Int) : (signedBytes k v).length = k := unsignedBytes_length _ _

theorem termPart_length (r : TermRec) : (termPart r).length = 13 := by
  unfold termPart
  split <;> simp

/-- The contents of an answer have the lengths of their kind. -/
theorem answerContents_lengths {q : Query} {parts : List (List Byte)} (h : answerContents s q = some parts) :
    parts.map List.length = contentLengths q.kind := by
  unfold answerContents at h
  split at h
  next hk =>
    split at h <;> [split at h; skip] <;> cases h
    simp [hk, contentLengths, parcelPart1, parcelPart2, parcelPart3, unsignedBytes_length, signedBytes_length]
  next hk =>
    split at h <;> [skip; cases h]
    obtain ⟨w, -, rfl⟩ := Option.map_eq_some_iff.1 h
    simp [hk, contentLengths, tankPart, unsignedBytes_length, signedBytes_length]
  next hk =>
    split at h <;> [skip; cases h]
    obtain ⟨w, -, rfl⟩ := Option.map_eq_some_iff.1 h
    simp [hk, contentLengths, meterPart1, meterPart2, unsignedBytes_length, signedBytes_length]
  next hk =>
    split at h <;> [split at h; skip] <;> cases h
    simp [hk, contentLengths, termPart_length]
  next hk =>
    cases h
    simp [hk, contentLengths, nodePart, unsignedBytes_length]
  next hk =>
    split at h <;> cases h
    simp [hk, contentLengths, timerPart, unsignedBytes_length]

/-- An answer has one to three parts (R191, R192). -/
theorem answerParts_length (q : Query) : 1 ≤ (answerParts s q).length ∧ (answerParts s q).length ≤ 3 := by
  unfold answerParts
  split
  · next parts h =>
    have hlength := congrArg List.length (answerContents_lengths h)
    rw [List.length_map] at hlength
    rw [List.length_mapIdx, hlength]
    cases q.kind <;> decide
  · exact ⟨Nat.le_refl 1, Nat.le_of_lt (by simp)⟩

/-- What the queue's queries must be, apart from slot and build. -/
theorem queryQueueSound_freezeHead (htold : s.told ≠ some 1) (hslot : s.slots[(1 : Fin 4)] = .empty)
    (hlength : s.qq.queries.length ≤ 4) (hnodup : s.qq.queries.Nodup) : QueryQueueSound (freezeHead s) := by
  unfold freezeHead
  split
  · next hq => simp [QueryQueueSound, hq, hslot, htold]
  · next q rest hq =>
    obtain ⟨hpos, hle⟩ := answerParts_length (s := s) q
    rw [hq] at hlength hnodup
    simp only [QueryQueueSound, loadSlot_qq, loadSlot_told, loadSlot_slot_empty, hq]
    refine ⟨hlength, hnodup, by simp [htold], fun h => absurd h htold, by simp, ?_⟩
    rintro b ⟨⟩
    exact ⟨Nat.le_refl 1, hpos, hle⟩

theorem queryQueueSound_takeQuery (p : List Byte) (a : Station) (h : QueryQueueSound s) :
    QueryQueueSound (takeQuery p a s) := by
  obtain ⟨hlength, hnodup, hslot, htold, hbuild, hparts⟩ := h
  unfold takeQuery
  dsimp only
  split
  · exact ⟨hlength, hnodup, hslot, htold, hbuild, hparts⟩
  · split
    · exact ⟨hlength, hnodup, hslot, htold, hbuild, hparts⟩
    · next k _ =>
      generalize hq : (⟨a, k, _⟩ : Query) = q
      split
      · exact ⟨hlength, hnodup, hslot, htold, hbuild, hparts⟩
      · next hnew =>
        split
        · exact ⟨hlength, hnodup, hslot, htold, hbuild, hparts⟩
        · next hroom =>
          have hlength' : (s.qq.queries ++ [q]).length ≤ 4 := by
            rw [List.length_append]
            exact Nat.lt_of_not_le hroom
          have hnodup' : (s.qq.queries ++ [q]).Nodup := by
            rw [← List.concat_eq_append]
            refine hnodup.concat fun hmem => hnew (List.any_eq_true.2 ⟨q, hmem, by simp⟩)
          unfold enqueue
          dsimp only
          split
          · next hempty =>
            rw [List.isEmpty_iff] at hempty
            exact queryQueueSound_freezeHead (fun h1 => htold h1 hempty) (hslot.2 (.inl hempty)) hlength' hnodup'
          · next hempty =>
            rw [List.isEmpty_iff] at hempty
            refine ⟨hlength', hnodup', ?_, fun _ => by simp, ?_, hparts⟩
            · simpa [hempty] using hslot
            · simpa [hempty] using hbuild

/-- The queue's act on its part's sending: the next part, or the next query's first, fills the slot (R191). -/
theorem queryQueueSound_answerSent (htold : s.told = none) (hslot : s.slots[(1 : Fin 4)] = .empty)
    (hlength : s.qq.queries.length ≤ 4) (hnodup : s.qq.queries.Nodup) (hne : s.qq.queries ≠ [])
    (hbuild : s.qq.queries = [] ↔ s.qq.build = none)
    (hparts : ∀ b ∈ s.qq.build, 1 ≤ b.next ∧ b.next ≤ b.parts.length ∧ b.parts.length ≤ 3) :
    QueryQueueSound (answerSent s) := by
  unfold answerSent
  split
  · next hb => exact absurd (hbuild.2 hb) hne
  · next b hb =>
    obtain ⟨hpos, -, hle⟩ := hparts b hb
    split
    · next part hpart =>
      simp only [QueryQueueSound, loadSlot_qq, loadSlot_told, loadSlot_slot_empty, htold]
      refine ⟨hlength, hnodup, by simp [hne], by simp, by simp [hne], ?_⟩
      rintro b' ⟨⟩
      obtain ⟨hlt, -⟩ := List.getElem?_eq_some_iff.1 hpart
      exact ⟨Nat.le_succ_of_le hpos, hlt, hle⟩
    · refine queryQueueSound_freezeHead (by simp [htold]) hslot ?_ (hnodup.sublist (List.tail_sublist _))
      exact (List.tail_sublist _).length_le.trans hlength

/-! ### The summary round -/

theorem roundSound_of_same (hslot : t.slots[(2 : Fin 4)] = .empty ↔ s.slots[(2 : Fin 4)] = .empty)
    (htold : t.told = s.told) (hround : t.round = s.round) (h : RoundSound s) : RoundSound t := by
  simpa only [RoundSound, hslot, htold, hround] using h

theorem roundSound_loadSummary (p : ParcelNo) (pending : Bool) (htold : s.told ≠ some 2) :
    RoundSound (loadSummary p pending s) := by
  simp only [RoundSound, loadSummary, loadSlot_round, loadSlot_told, loadSlot_slot_empty]
  exact ⟨by simp [htold], fun _ => trivial, by simp, p.isLt⟩

theorem roundSound_beginRound (htold : s.told ≠ some 2) (hslot : s.slots[(2 : Fin 4)] = .empty) :
    RoundSound (beginRound s) := by
  unfold beginRound
  split
  · exact roundSound_loadSummary _ _ htold
  · simp [RoundSound, hslot, htold]

theorem roundSound_requestRound (h : RoundSound s) : RoundSound (requestRound s) := by
  obtain ⟨hslot, htold, hpending, hcursor⟩ := h
  unfold requestRound
  split
  · next hrun => exact ⟨hslot, htold, by simp [hrun], hcursor⟩
  · next hrun =>
    rw [Bool.not_eq_true] at hrun
    exact roundSound_beginRound (fun h2 => by simp [htold h2] at hrun) (hslot.2 (.inl hrun))

theorem roundSound_searchOn (htold : s.told = none) (hslot : s.slots[(2 : Fin 4)] = .empty)
    (hcursor : s.round.cursor ≤ 8) : RoundSound (searchOn s) := by
  have htold2 : s.told ≠ some 2 := by simp [htold]
  unfold searchOn
  split
  · exact roundSound_loadSummary _ _ htold2
  · split
    · exact roundSound_beginRound htold2 hslot
    · next hpending => simpa [RoundSound, hslot, htold] using ⟨by simpa using hpending, hcursor⟩

/-! ### Act by act -/

/-- The owner told of a frame sent, or nobody (R184). -/
theorem settleOwner_told_cases (s : State) :
    (s.told = none ∧ settleOwner s = s)
      ∨ ∃ i, s.told = some i ∧ settleOwner s = ownerTold i { s with told := none } := by
  unfold settleOwner
  split
  · next i hi => exact .inr ⟨i, hi, rfl⟩
  · next hnone => exact .inl ⟨hnone, rfl⟩

theorem freezeHead_slot_empty {j : Fin 4} (h : j ≠ 1) : (freezeHead s).slots[j] = .empty ↔ s.slots[j] = .empty := by
  unfold freezeHead
  split
  · rfl
  · rw [loadSlot_slot_empty]
    exact and_iff_right h

theorem alertSent_slot_empty {j : Fin 4} (h : j ≠ 0) : (alertSent s).slots[j] = .empty ↔ s.slots[j] = .empty := by
  unfold alertSent
  split
  · rfl
  · rfl
  · rw [loadSlot_slot_empty]
    exact and_iff_right h

theorem answerSent_slot_empty {j : Fin 4} (h : j ≠ 1) : (answerSent s).slots[j] = .empty ↔ s.slots[j] = .empty := by
  unfold answerSent
  split
  · rfl
  · split
    · rw [loadSlot_slot_empty]
      exact and_iff_right h
    · exact freezeHead_slot_empty h

theorem loadSummary_slot_empty (p : ParcelNo) (pending : Bool) {j : Fin 4} (h : j ≠ 2) :
    (loadSummary p pending s).slots[j] = .empty ↔ s.slots[j] = .empty := by
  rw [loadSummary, loadSlot_slot_empty]
  exact and_iff_right h

theorem beginRound_slot_empty {j : Fin 4} (h : j ≠ 2) : (beginRound s).slots[j] = .empty ↔ s.slots[j] = .empty := by
  unfold beginRound
  split
  · exact loadSummary_slot_empty _ _ h
  · rfl

theorem searchOn_slot_empty {j : Fin 4} (h : j ≠ 2) : (searchOn s).slots[j] = .empty ↔ s.slots[j] = .empty := by
  unfold searchOn
  split
  · exact loadSummary_slot_empty _ _ h
  · split
    · exact beginRound_slot_empty h
    · rfl

theorem requestRound_slot_empty {j : Fin 4} (h : j ≠ 2) :
    (requestRound s).slots[j] = .empty ↔ s.slots[j] = .empty := by
  unfold requestRound
  split
  · rfl
  · exact beginRound_slot_empty h

theorem loadAnnounce_slot_empty {j : Fin 4} (h : j ≠ 3) :
    (loadAnnounce s).slots[j] = .empty ↔ s.slots[j] = .empty := by
  unfold loadAnnounce
  split
  · dsimp only
    rw [loadSlot_slot_empty]
    exact and_iff_right h
  · rfl

theorem loadAnnounce_records : (loadAnnounce s).aq.records = s.aq.records := by
  unfold loadAnnounce
  split <;> simp

theorem takeQuery_slot_empty (p : List Byte) (a : Station) {j : Fin 4} (h : j ≠ 1) :
    (takeQuery p a s).slots[j] = .empty ↔ s.slots[j] = .empty := by
  unfold takeQuery
  dsimp only
  split
  · rfl
  · split
    · rfl
    · split
      · rfl
      · split
        · rfl
        · unfold enqueue
          dsimp only
          split
          · exact freezeHead_slot_empty h
          · rfl

/-- A query changes the query queue and slot 1 alone. -/
theorem takeQuery_leaves (p : List Byte) (a : Station) :
    (takeQuery p a s).told = s.told ∧ (takeQuery p a s).aq = s.aq ∧ (takeQuery p a s).round = s.round := by
  unfold takeQuery
  dsimp only
  split
  · exact ⟨rfl, rfl, rfl⟩
  · split
    · exact ⟨rfl, rfl, rfl⟩
    · split
      · exact ⟨rfl, rfl, rfl⟩
      · split
        · exact ⟨rfl, rfl, rfl⟩
        · unfold enqueue
          dsimp only
          split <;> simp

theorem inFlightSlot_not_empty {v : Vector Slot 4} {i : Fin 4} (h : inFlightSlot v = some i) : v[i] ≠ .empty := by
  have hflight := List.find?_some h
  rintro he
  rw [he] at hflight
  cases hflight

/-- A frame sent empties the slot that was in flight, whose owner is told (R184). -/
theorem frameSent_told_cases (s : State) :
    ((frameSent s).slots = s.slots ∧ (frameSent s).told = s.told)
      ∨ ∃ i, s.slots[i] ≠ .empty ∧ (frameSent s).told = some i ∧ (frameSent s).slots = setPlace s.slots i .empty := by
  unfold frameSent
  dsimp only
  split
  · next i hi => exact .inr ⟨i, inFlightSlot_not_empty hi, rfl, rfl⟩
  · exact .inl ⟨rfl, rfl⟩

theorem frameSent_leaves :
    (frameSent s).aq = s.aq ∧ (frameSent s).qq = s.qq ∧ (frameSent s).round = s.round := by
  unfold frameSent
  dsimp only
  split <;> exact ⟨rfl, rfl, rfl⟩

/-- A slot that its owner keeps full exactly while it holds something, but between a frame's sending and the owner's
act, is so kept by the sending (R184). -/
theorem frameSent_slot {i : Fin 4} {held : Prop} (htold : s.told = none)
    (h : s.slots[i] = .empty ↔ ¬held ∨ s.told = some i) :
    ((frameSent s).slots[i] = .empty ↔ ¬held ∨ (frameSent s).told = some i)
      ∧ ((frameSent s).told = some i → held) := by
  simp only [htold, reduceCtorEq, or_false] at h
  rcases frameSent_told_cases s with ⟨hslots, ht⟩ | ⟨k, hk, ht, hslots⟩ <;> rw [hslots, ht]
  · rw [h]
    simp [htold]
  · rw [setPlace_get]
    by_cases hik : i = k
    · subst hik
      rw [if_pos rfl]
      exact ⟨by simp, fun _ => not_not.1 (h.not.1 hk)⟩
    · rw [if_neg hik]
      have hki : k ≠ i := Ne.symm hik
      rw [h]
      simp [hki]

theorem alertQueueSound_act (hact : QueueAct s t) (h : AlertQueueSound s) : AlertQueueSound t := by
  obtain ⟨hlength, hpair, hslot, htold⟩ := id h
  cases hact with
  | quiet => exact h
  | offer => exact alertQueueSound_of_same (offer_slot_empty _) (by simp) (by simp) h
  | returned => exact alertQueueSound_of_same (returnFrame_slot_empty _) rfl rfl h
  | alert => exact alertQueueSound_alert _ _ _ h
  | announce =>
    exact alertQueueSound_of_same (loadAnnounce_slot_empty (by decide)) (by simp) loadAnnounce_records h
  | round => exact alertQueueSound_of_same (requestRound_slot_empty (by decide)) (by simp) (by simp) h
  | query =>
    obtain ⟨ht, ha, -⟩ := takeQuery_leaves (s := s) _ _
    exact alertQueueSound_of_same (takeQuery_slot_empty _ _ (by decide)) ht (by rw [ha]) h
  | sent hnone =>
    obtain ⟨hslot', htold'⟩ := frameSent_slot (i := 0) (held := s.aq.records ≠ []) hnone (by simpa using hslot)
    rw [AlertQueueSound, frameSent_leaves.1]
    exact ⟨hlength, hpair, by simpa using hslot', htold'⟩
  | owner =>
    rcases settleOwner_told_cases s with ⟨-, e⟩ | ⟨i, hi, e⟩ <;> rw [e]
    · exact h
    · by_cases h0 : i = 0
      · subst h0
        exact alertQueueSound_alertSent rfl (hslot.2 (.inr hi)) hlength hpair (htold hi)
      · have hquiet : AlertQueueSound { s with told := none } := by
          refine ⟨hlength, hpair, ?_, by simp⟩
          simpa [hi, h0] using hslot
        have h3 : i = 1 ∨ i = 2 ∨ i = 3 := by omega
        rcases h3 with rfl | rfl | rfl
        · exact alertQueueSound_of_same (answerSent_slot_empty (by decide)) (by simp [ownerTold])
            (by simp [ownerTold]) hquiet
        · exact alertQueueSound_of_same (searchOn_slot_empty (by decide)) (by simp [ownerTold])
            (by simp [ownerTold]) hquiet
        · exact hquiet

theorem queryQueueSound_act (hact : QueueAct s t) (h : QueryQueueSound s) : QueryQueueSound t := by
  obtain ⟨hlength, hnodup, hslot, htold, hbuild, hparts⟩ := id h
  cases hact with
  | quiet => exact h
  | offer => exact queryQueueSound_of_same (offer_slot_empty _) (by simp) (by simp) h
  | returned => exact queryQueueSound_of_same (returnFrame_slot_empty _) rfl rfl h
  | alert =>
    refine queryQueueSound_of_same ?_ (by simp) (by simp) h
    rw [queueAlert_slot_empty]
    simp
  | announce => exact queryQueueSound_of_same (loadAnnounce_slot_empty (by decide)) (by simp) (by simp) h
  | round => exact queryQueueSound_of_same (requestRound_slot_empty (by decide)) (by simp) (by simp) h
  | query => exact queryQueueSound_takeQuery _ _ h
  | sent hnone =>
    obtain ⟨hslot', htold'⟩ := frameSent_slot (i := 1) (held := s.qq.queries ≠ []) hnone (by simpa using hslot)
    rw [QueryQueueSound, frameSent_leaves.2.1]
    exact ⟨hlength, hnodup, by simpa using hslot', htold', hbuild, hparts⟩
  | owner =>
    rcases settleOwner_told_cases s with ⟨-, e⟩ | ⟨i, hi, e⟩ <;> rw [e]
    · exact h
    · by_cases h1 : i = 1
      · subst h1
        exact queryQueueSound_answerSent rfl (hslot.2 (.inr hi)) hlength hnodup (htold hi) hbuild hparts
      · have hquiet : QueryQueueSound { s with told := none } := by
          refine ⟨hlength, hnodup, ?_, by simp, hbuild, hparts⟩
          simpa [hi, h1] using hslot
        have h3 : i = 0 ∨ i = 2 ∨ i = 3 := by omega
        rcases h3 with rfl | rfl | rfl
        · exact queryQueueSound_of_same (alertSent_slot_empty (by decide)) (by simp [ownerTold])
            (by simp [ownerTold]) hquiet
        · exact queryQueueSound_of_same (searchOn_slot_empty (by decide)) (by simp [ownerTold])
            (by simp [ownerTold]) hquiet
        · exact hquiet

theorem roundSound_act (hact : QueueAct s t) (h : RoundSound s) : RoundSound t := by
  obtain ⟨hslot, htold, hpending, hcursor⟩ := id h
  cases hact with
  | quiet => exact h
  | offer => exact roundSound_of_same (offer_slot_empty _) (by simp) (by simp) h
  | returned => exact roundSound_of_same (returnFrame_slot_empty _) rfl rfl h
  | alert =>
    refine roundSound_of_same ?_ (by simp) (by simp) h
    rw [queueAlert_slot_empty]
    simp
  | announce => exact roundSound_of_same (loadAnnounce_slot_empty (by decide)) (by simp) (by simp) h
  | round => exact roundSound_requestRound h
  | query =>
    obtain ⟨ht, -, hr⟩ := takeQuery_leaves (s := s) _ _
    exact roundSound_of_same (takeQuery_slot_empty _ _ (by decide)) ht hr h
  | sent hnone =>
    obtain ⟨hslot', htold'⟩ := frameSent_slot (i := 2) (held := s.round.running = true) hnone (by simpa using hslot)
    rw [RoundSound, frameSent_leaves.2.2]
    exact ⟨by simpa using hslot', htold', hpending, hcursor⟩
  | owner =>
    rcases settleOwner_told_cases s with ⟨-, e⟩ | ⟨i, hi, e⟩ <;> rw [e]
    · exact h
    · by_cases h2 : i = 2
      · subst h2
        exact roundSound_searchOn rfl (hslot.2 (.inr hi)) hcursor
      · have hquiet : RoundSound { s with told := none } := by
          refine ⟨?_, by simp, hpending, hcursor⟩
          simpa [hi, h2] using hslot
        have h3 : i = 0 ∨ i = 1 ∨ i = 3 := by omega
        rcases h3 with rfl | rfl | rfl
        · exact roundSound_of_same (alertSent_slot_empty (by decide)) (by simp [ownerTold])
            (by simp [ownerTold]) hquiet
        · exact roundSound_of_same (answerSent_slot_empty (by decide)) (by simp [ownerTold])
            (by simp [ownerTold]) hquiet
        · exact hquiet

/-- An act on the records or the engine leaves slots, queues and the commands that wait as they are. -/
theorem recordAct_leaves (hact : RecordAct s t) :
    t.slots = s.slots ∧ t.told = s.told ∧ t.aq = s.aq ∧ t.qq = s.qq ∧ t.round = s.round ∧ t.pending = s.pending := by
  cases hact with
  | @volume _ e =>
    unfold computeVolume
    cases s.tank? e.key <;> exact ⟨rfl, rfl, rfl, rfl, rfl, rfl⟩
  | _ => exact ⟨rfl, rfl, rfl, rfl, rfl, rfl⟩

/-- An act on the queues leaves the commands that wait as they are. -/
theorem queueAct_pending (hact : QueueAct s t) : t.pending = s.pending := by
  cases hact with
  | quiet => rfl
  | owner =>
    rcases settleOwner_told_cases s with ⟨-, e⟩ | ⟨i, -, e⟩ <;> rw [e]
    unfold ownerTold
    split <;> simp
  | query =>
    unfold takeQuery
    dsimp only
    split
    · rfl
    · split
      · rfl
      · split <;> [rfl; split] <;> [rfl; unfold enqueue]
        dsimp only
        split <;> simp
  | sent =>
    unfold frameSent
    dsimp only
    split <;> rfl
  | _ => simp

end Sys2Proof.Laws
end

section
/-! PROOFS. Every step keeps the queues and the summary round. -/

namespace Sys2Proof.Proofs

open Machine Safety Laws

theorem acts_keep_queues {s t : State} (h : Acts s t) :
    t.pending = s.pending
      ∧ (AlertQueueSound s → AlertQueueSound t)
      ∧ (QueryQueueSound s → QueryQueueSound t)
      ∧ (RoundSound s → RoundSound t) := by
  induction h with
  | refl => exact ⟨rfl, id, id, id⟩
  | tail _ hact ih =>
    obtain ⟨hpending, halert, hquery, hround⟩ := ih
    cases hact with
    | record hrecord =>
      obtain ⟨hslots, htold, haq, hqq, hr, hp⟩ := recordAct_leaves hrecord
      simp only [AlertQueueSound, QueryQueueSound, RoundSound, hslots, htold, haq, hqq, hr, hp]
      exact ⟨hpending, halert, hquery, hround⟩
    | queue hqueue =>
      exact ⟨(queueAct_pending hqueue).trans hpending, fun h => alertQueueSound_act hqueue (halert h),
        fun h => queryQueueSound_act hqueue (hquery h), fun h => roundSound_act hqueue (hround h)⟩
    | reset address role rate esd =>
      exact ⟨hpending, fun _ => by simp [AlertQueueSound, State.atResetEnd],
        fun _ => by simp [QueryQueueSound, State.atResetEnd], fun _ => by simp [RoundSound, State.atResetEnd]⟩

/-- Settles O56: every step is a chain of acts, and every act keeps each queue sound with its slot. -/
theorem stepsKeepQueues : Obligations.StepsKeepQueues := by
  intro s t hstep
  obtain ⟨u, hu, hacts⟩ := step_acts s
  obtain rfl : u = t := by simpa [hu] using hstep
  exact acts_keep_queues hacts

end Sys2Proof.Proofs
end

section
/-! SUPPORT. What an act does to one record of a table: where each record of the tables after the act comes from. The
invariants over records are proved of one record at a time. -/

namespace Sys2Proof.Laws

open Machine Safety

variable {s t : State}

/-! ### Acts on the queues -/

/-- A state with the records and the engine of another; OVERRUN apart, which an ANNOUNCE clears. -/
def keepRecords (s x : State) : State :=
  { x with
    tanks := s.tanks, meters := s.meters, valves := s.valves, terms := s.terms, parcels := s.parcels
    peers := s.peers, ee := { s.ee with overrun := x.ee.overrun } }

theorem eq_keepRecords (tanks : t.tanks = s.tanks) (meters : t.meters = s.meters) (valves : t.valves = s.valves)
    (terms : t.terms = s.terms) (parcels : t.parcels = s.parcels) (peers : t.peers = s.peers)
    (ee : t.ee = { s.ee with overrun := t.ee.overrun }) : t = keepRecords s t := by
  rw [keepRecords, ← ee, ← tanks, ← meters, ← valves, ← terms, ← parcels, ← peers]

theorem eq_keepRecords_of_ee (tanks : t.tanks = s.tanks) (meters : t.meters = s.meters)
    (valves : t.valves = s.valves) (terms : t.terms = s.terms) (parcels : t.parcels = s.parcels)
    (peers : t.peers = s.peers) (ee : t.ee = s.ee) : t = keepRecords s t :=
  eq_keepRecords tanks meters valves terms parcels peers (by rw [ee])

theorem loadAnnounce_keepRecords : loadAnnounce s = keepRecords s (loadAnnounce s) := by
  refine eq_keepRecords (by simp) (by simp) (by simp) (by simp) (by simp) (by simp) ?_
  unfold loadAnnounce
  split <;> simp

theorem takeQuery_keepRecords (p : List Byte) (a : Station) : takeQuery p a s = keepRecords s (takeQuery p a s) := by
  unfold takeQuery
  dsimp only
  split
  · rfl
  · split
    · rfl
    · split
      · rfl
      · split
        · rfl
        · unfold enqueue
          dsimp only
          split
          · apply eq_keepRecords_of_ee <;> simp
          · rfl

theorem frameSent_keepRecords : frameSent s = keepRecords s (frameSent s) := by
  unfold frameSent
  dsimp only
  split <;> rfl

theorem settleOwner_keepRecords : settleOwner s = keepRecords s (settleOwner s) := by
  rcases settleOwner_told_cases s with ⟨-, e⟩ | ⟨i, -, e⟩ <;> rw [e]
  · rfl
  · unfold ownerTold
    split <;> apply eq_keepRecords_of_ee <;> simp

/-- An act on the queues leaves every record and the engine's pass as they are. -/
theorem queueAct_keeps_records (h : QueueAct s t) : ∃ x, t = keepRecords s x := by
  cases h with
  | quiet sr bi ct fresh alertN freeIndex overrun =>
    exact ⟨{ s with
      sr := sr, bi := bi, ct := ct, fresh := fresh, alertN := alertN, freeIndex := freeIndex
      ee := { s.ee with overrun := overrun } }, rfl⟩
  | offer => exact ⟨_, by apply eq_keepRecords_of_ee <;> simp⟩
  | returned => exact ⟨returnFrame s, rfl⟩
  | alert => exact ⟨_, by apply eq_keepRecords_of_ee <;> simp⟩
  | owner => exact ⟨_, settleOwner_keepRecords⟩
  | announce => exact ⟨_, loadAnnounce_keepRecords⟩
  | round => exact ⟨_, by apply eq_keepRecords_of_ee <;> simp⟩
  | query => exact ⟨_, takeQuery_keepRecords _ _⟩
  | sent => exact ⟨_, frameSent_keepRecords⟩

/-! ### One tank record -/

/-- Where a tank record after an act comes from: what the act did to the record of the same key. -/
inductive TankTurn (s : State) (r : TankRec) : TankRec → Prop
  | same : TankTurn s r r
  | change {r' : TankRec} (h : TankChange r r') : TankTurn s r r'
  | removed : TankTurn s r ⟨r.key, r.decl.removed, none⟩
  | accepted {c : Copy TankDecl} {side : Side} {parcel : Option ParcelNo} (stage : s.ee.pass = .running .handOver)
      (copy : r.decl.handOver = some c) (h : tankProtected s r.work side parcel = false) :
      TankTurn s r { r with decl := r.decl.accepted c, work := some (tankAccepted r.work side parcel) }
  | opened (p : ParcelNo) :
      TankTurn s r { r with work := r.work.map fun w => if w.parcel = some p then w.opened else w }
  | released (p : ParcelNo) :
      TankTurn s r { r with work := r.work.map fun w => if w.parcel = some p then w.released else w }
  | computed (n : Snapshot) : TankTurn s r (tankVolume n s r)

/-- A tank record after an act is a new one, staged only, or comes from one before it. -/
theorem tanks_from (h : RecordAct s t) {r' : TankRec} (hr' : r' ∈ t.tanks) :
    (∃ k c, r' = ⟨k, Decls.stagedOnly c, none⟩) ∨ ∃ r ∈ s.tanks, TankTurn s r r' := by
  have put {k : Key} {r x : TankRec} (found : s.tank? k = some r) (hx : TankTurn s r x)
      (hmem : r' ∈ putRec tankOrd x s.tanks) : ∃ r ∈ s.tanks, TankTurn s r r' := by
    rcases mem_putRec hmem with rfl | hmem
    · exact ⟨r, findRec_mem found, hx⟩
    · exact ⟨r', hmem, .same⟩
  cases h with
  | tank found h => exact .inr (put found (.change h) hr')
  | newTank c _ _ =>
    rcases mem_putRec hr' with rfl | hmem
    · exact .inl ⟨_, c, rfl⟩
    · exact .inr ⟨r', hmem, .same⟩
  | dropTank k => exact .inr ⟨r', (mem_dropRec hr').1, .same⟩
  | removeTank found => exact .inr (put found .removed hr')
  | acceptTank stage found copy h => exact .inr (put found (.accepted stage copy h) hr')
  | openNow _ _ _ =>
    obtain ⟨r, hr, rfl⟩ := List.mem_map.1 hr'
    exact .inr ⟨r, hr, .opened _⟩
  | release p =>
    obtain ⟨r, hr, rfl⟩ := List.mem_map.1 hr'
    exact .inr ⟨r, hr, .released p⟩
  | begins _ =>
    obtain ⟨r, hr, rfl⟩ := List.mem_map.1 hr'
    exact .inr ⟨r, hr, .change (.decl .handed)⟩
  | @volume n e _ _ _ =>
    simp only [reach_tanks, computeVolume] at hr'
    cases found : s.tank? e.key with
    | none =>
      rw [found] at hr'
      exact .inr ⟨r', hr', .same⟩
    | some r =>
      rw [found] at hr'
      exact .inr (put found (.computed n) hr')
  | _ => exact .inr ⟨r', hr', .same⟩

theorem computeVolume_leaves (n : Snapshot) (e : TankSnap) :
    (computeVolume n s e).meters = s.meters ∧ (computeVolume n s e).parcels = s.parcels
      ∧ (computeVolume n s e).terms = s.terms ∧ (computeVolume n s e).valves = s.valves
      ∧ (computeVolume n s e).peers = s.peers := by
  unfold computeVolume
  cases s.tank? e.key <;> exact ⟨rfl, rfl, rfl, rfl, rfl⟩

/-! ### One meter record -/

/-- Where a meter record after an act comes from. -/
inductive MeterTurn (r : MeterRec) : MeterRec → Prop
  | same : MeterTurn r r
  | change {r' : MeterRec} (h : MeterChange r r') : MeterTurn r r'
  | removed : MeterTurn r ⟨r.key, r.decl.removed, none⟩
  | accepted {c : Copy MeterDecl} (copy : r.decl.handOver = some c) (h : factorOk c.contents.factor = true) :
      MeterTurn r { r with decl := r.decl.accepted c, work := some (meterAccepted r.work c.contents.factor) }

theorem uncredited_sound {p : ParcelNo} {w : MeterWork} (h : MeterSound w) : MeterSound (w.uncredited p) := by
  unfold MeterWork.uncredited
  split
  · exact h
  · exact h

/-- A meter record after an act is a new one, staged only, or comes from one before it. -/
theorem meters_from (h : RecordAct s t) {r' : MeterRec} (hr' : r' ∈ t.meters) :
    (∃ k c, r' = ⟨k, Decls.stagedOnly c, none⟩) ∨ ∃ r ∈ s.meters, MeterTurn r r' := by
  have put {k : Key} {r x : MeterRec} (found : s.meter? k = some r) (hx : MeterTurn r x)
      (hmem : r' ∈ putRec meterOrd x s.meters) : ∃ r ∈ s.meters, MeterTurn r r' := by
    rcases mem_putRec hmem with rfl | hmem
    · exact ⟨r, findRec_mem found, hx⟩
    · exact ⟨r', hmem, .same⟩
  cases h with
  | meter found h => exact .inr (put found (.change h) hr')
  | newMeter c _ _ =>
    rcases mem_putRec hr' with rfl | hmem
    · exact .inl ⟨_, c, rfl⟩
    · exact .inr ⟨r', hmem, .same⟩
  | dropMeter k => exact .inr ⟨r', (mem_dropRec hr').1, .same⟩
  | removeMeter found => exact .inr (put found .removed hr')
  | acceptMeter found copy h => exact .inr (put found (.accepted copy h) hr')
  | uncredit p =>
    obtain ⟨r, hr, rfl⟩ := List.mem_map.1 hr'
    exact .inr ⟨r, hr, .change (.work _ fun _ _ => uncredited_sound)⟩
  | begins _ =>
    obtain ⟨r, hr, rfl⟩ := List.mem_map.1 hr'
    exact .inr ⟨r, hr, .change (.decl .handed)⟩
  | @volume n e _ _ _ =>
    refine .inr ⟨r', ?_, .same⟩
    rw [← (computeVolume_leaves (s := s) n e).1]
    exact hr'
  | _ => exact .inr ⟨r', hr', .same⟩

/-! ### One parcel record -/

/-- Where a parcel record after an act comes from. -/
inductive ParcelTurn (s : State) (r : ParcelRec) : ParcelRec → Prop
  | change {r' : ParcelRec} (h : ParcelChange r r') : ParcelTurn s r r'
  | begun : ParcelTurn s r { r with decl := r.decl.toHandOver, inHand := r.pendingMark, pendingMark := none }
  | declared {c : Copy ParcelDecl} (stage : s.ee.pass = .running .handOver) (copy : r.decl.handOver = some c)
      (h : parcelRefusal r c.contents = none) : ParcelTurn s r (r.declared c)
  | openedNow (h : r.state = .declared) : ParcelTurn s r r.openedNow
  | releasedNow : ParcelTurn s r r.releasedNow
  | published (x : Published) : ParcelTurn s r { r with published := x }

theorem openRefusal_state {n : Snapshot} {p : ParcelNo} (h : openRefusal n s p = none) :
    s.parcels[p].state = .declared := by
  by_contra hstate
  unfold openRefusal at h
  dsimp only at h
  rw [if_pos hstate] at h
  cases h

theorem parcel_same (s : State) (p : ParcelNo) : ParcelTurn s s.parcels[p] s.parcels[p] := .change .same

/-- Each parcel's record after an act comes from its record before it. -/
theorem parcels_from (h : RecordAct s t) (q : ParcelNo) : ParcelTurn s s.parcels[q] t.parcels[q] := by
  have put {p : ParcelNo} {x : ParcelRec} (hx : ParcelTurn s s.parcels[p] x) :
      ParcelTurn s s.parcels[q] (setPlace s.parcels p x)[q] := by
    rw [setPlace_get]
    split
    · next hq => exact hq ▸ hx
    · exact parcel_same s q
  cases h with
  | parcels v h => exact .change (h q)
  | declare stage copy h => exact put (.declared stage copy h)
  | openNow _ _ h => exact put (.openedNow (openRefusal_state h))
  | release p => exact put .releasedNow
  | begins _ =>
    show ParcelTurn s _ (mapPlaces s.parcels _)[q]
    rw [mapPlaces_get]
    exact .begun
  | complete _ =>
    show ParcelTurn s _ (mapPlaces s.parcels _)[q]
    rw [mapPlaces_get]
    exact .published _
  | @volume n e _ _ _ =>
    show ParcelTurn s _ (computeVolume n s e).parcels[q]
    rw [(computeVolume_leaves n e).2.1]
    exact parcel_same s q
  | _ => exact parcel_same s q

/-! ### One term record -/

/-- Where a term's record after an act comes from. -/
inductive TermTurn (r : TermRec) : TermRec → Prop
  | same : TermTurn r r
  | change {d : Decls TermDecl} (h : DeclChange r.decl d) : TermTurn r { r with decl := d }
  | accepted {c : Copy TermDecl} (term : Option Term) (copy : r.decl.handOver = some c) :
      TermTurn r ⟨r.decl.accepted c, term⟩

theorem beginPass_term (q : TermPos) :
    (beginPass s).terms[q] = { s.terms[q] with decl := s.terms[q].decl.toHandOver } := by
  unfold beginPass
  rw [mapPlaces_get]

/-- Each term's record after an act comes from its record before it. -/
theorem terms_from (h : RecordAct s t) (q : TermPos) : TermTurn s.terms[q] t.terms[q] := by
  have put {p : TermPos} {x : TermRec} (hx : TermTurn s.terms[p] x) :
      TermTurn s.terms[q] (setPlace s.terms p x)[q] := by
    rw [setPlace_get]
    split
    · next hq => exact hq ▸ hx
    · exact .same
  cases h with
  | term p h => exact put (.change h)
  | applyTerm term copy _ => exact put (.accepted term copy)
  | begins _ =>
    rw [beginPass_term]
    exact .change .handed
  | @volume n e _ _ _ =>
    show TermTurn _ (computeVolume n s e).terms[q]
    rw [(computeVolume_leaves n e).2.2.1]
    exact .same
  | _ => exact .same

end Sys2Proof.Laws
end

section
/-! SUPPORT. Every act keeps the tables: one record for each key, the capacities, the valve table to the stations that
current terms name, the revisions running forward, and working fields beside a current declaration alone (R26, R27, R29,
R40, R59, R66, R145). -/

namespace Sys2Proof.Laws

open Machine Safety

variable {s t : State}

/-! ### Revisions and working fields, record by record -/

theorem forward_stagedOnly {α : Type} (c : Copy α) : Forward (Decls.stagedOnly c) :=
  ⟨fun _ _ => ⟨rfl, rfl⟩, fun _ h => nomatch h⟩

theorem forward_removed {α : Type} (d : Decls α) : Forward d.removed :=
  ⟨fun _ _ => ⟨rfl, rfl⟩, fun _ h => nomatch h⟩

theorem forward_accepted {α : Type} {d : Decls α} {c : Copy α} (copy : d.handOver = some c) (h : Forward d) :
    Forward (d.accepted c) :=
  ⟨fun x hx => ⟨rfl, (congrArg _ copy).symm.trans (h.1 x hx).1⟩, fun _ h => nomatch h⟩

theorem tankVolume_leaves (n : Snapshot) (s : State) (r : TankRec) :
    (tankVolume n s r).key = r.key ∧ (tankVolume n s r).decl = r.decl
      ∧ (tankVolume n s r).work.isSome = r.work.isSome := by
  unfold tankVolume
  split
  · next w _ hw _ =>
    split
    · exact ⟨rfl, rfl, by rw [hw]; rfl⟩
    · split
      · exact ⟨rfl, rfl, rfl⟩
      · split <;> exact ⟨rfl, rfl, by rw [hw]; rfl⟩
  · exact ⟨rfl, rfl, rfl⟩

theorem TankTurn.key_eq {r r' : TankRec} (h : TankTurn s r r') : r'.key = r.key := by
  cases h with
  | change h => cases h <;> rfl
  | computed n => exact (tankVolume_leaves n s r).1
  | _ => rfl

theorem TankTurn.forward {r r' : TankRec} (h : TankTurn s r r') (hr : Forward r.decl) : Forward r'.decl := by
  cases h with
  | change h =>
    cases h with
    | decl h => exact h.forward hr
    | gauge => exact hr
  | removed => exact forward_removed _
  | accepted _ copy _ => exact forward_accepted copy hr
  | computed n => exact (tankVolume_leaves n s r).2.1 ▸ hr
  | _ => exact hr

theorem TankTurn.work_isSome {r r' : TankRec} (h : TankTurn s r r') (hr : r.work.isSome = r.decl.current.isSome) :
    r'.work.isSome = r'.decl.current.isSome := by
  cases h with
  | same => exact hr
  | change h =>
    cases h with
    | decl h => exact hr.trans (by rw [h.current_eq])
    | gauge m hw => rw [← hr, hw]; rfl
  | removed => rfl
  | accepted _ copy _ => rfl
  | opened p => exact Option.isSome_map.trans hr
  | released p => exact Option.isSome_map.trans hr
  | computed n =>
    obtain ⟨-, hdecl, hwork⟩ := tankVolume_leaves n s r
    rw [hwork, hdecl, hr]

theorem MeterTurn.forward {r r' : MeterRec} (h : MeterTurn r r') (hr : Forward r.decl) : Forward r'.decl := by
  cases h with
  | same => exact hr
  | change h =>
    cases h with
    | decl h => exact h.forward hr
    | work => exact hr
  | removed => exact forward_removed _
  | accepted copy _ => exact forward_accepted copy hr

theorem MeterTurn.work_isSome {r r' : MeterRec} (h : MeterTurn r r') (hr : r.work.isSome = r.decl.current.isSome) :
    r'.work.isSome = r'.decl.current.isSome := by
  cases h with
  | same => exact hr
  | change h =>
    cases h with
    | decl h => exact hr.trans (by rw [h.current_eq])
    | work f _ => exact Option.isSome_map.trans hr
  | removed => rfl
  | accepted copy _ => rfl

theorem addHold_decl (r : ParcelRec) (add : HoldSet → HoldSet) : (r.addHold add).decl = r.decl := by
  unfold ParcelRec.addHold
  split <;> rfl

theorem ParcelTurn.forward {r r' : ParcelRec} (h : ParcelTurn s r r') (hr : Forward r.decl) : Forward r'.decl := by
  cases h with
  | change h =>
    cases h with
    | decl h => exact h.forward hr
    | held add => exact addHold_decl r add ▸ hr
    | _ => exact hr
  | begun => exact DeclChange.forward .handed hr
  | declared _ copy _ => exact forward_accepted copy hr
  | _ => exact hr

theorem TermTurn.forward {r r' : TermRec} (h : TermTurn r r') (hr : Forward r.decl) : Forward r'.decl := by
  cases h with
  | same => exact hr
  | change h => exact h.forward hr
  | accepted _ copy => exact forward_accepted copy hr

theorem revisionsForward_recordAct (hact : RecordAct s t) (h : RevisionsForward s) : RevisionsForward t := by
  obtain ⟨htanks, hmeters, hparcels, hterms⟩ := h
  refine ⟨fun r hr => ?_, fun r hr => ?_, fun r hr => ?_, fun r hr => ?_⟩
  · rcases tanks_from hact hr with ⟨k, c, rfl⟩ | ⟨r0, hr0, hturn⟩
    · exact forward_stagedOnly c
    · exact hturn.forward (htanks r0 hr0)
  · rcases meters_from hact hr with ⟨k, c, rfl⟩ | ⟨r0, hr0, hturn⟩
    · exact forward_stagedOnly c
    · exact hturn.forward (hmeters r0 hr0)
  · obtain ⟨q, rfl⟩ := (mem_toList_iff _ _).1 hr
    exact (parcels_from hact q).forward (hparcels _ (get_mem_toList _ q))
  · obtain ⟨q, rfl⟩ := (mem_toList_iff _ _).1 hr
    exact (terms_from hact q).forward (hterms _ (get_mem_toList _ q))

theorem workWithCurrent_recordAct (hact : RecordAct s t) (h : WorkWithCurrent s) : WorkWithCurrent t := by
  obtain ⟨htanks, hmeters⟩ := h
  refine ⟨fun r hr => ?_, fun r hr => ?_⟩
  · rcases tanks_from hact hr with ⟨k, c, rfl⟩ | ⟨r0, hr0, hturn⟩
    · rfl
    · exact hturn.work_isSome (htanks r0 hr0)
  · rcases meters_from hact hr with ⟨k, c, rfl⟩ | ⟨r0, hr0, hturn⟩
    · rfl
    · exact hturn.work_isSome (hmeters r0 hr0)

/-! ### The stations that current terms name -/

theorem mem_heldTerms {x : Term} : x ∈ heldTerms s ↔ ∃ q : TermPos, s.terms[q].term = some x := by
  simp only [heldTerms, List.mem_filterMap, mem_toList_iff, exists_exists_eq_and]

/-- The terms held are those of the positions, whatever else their records hold. -/
theorem heldTerms_of_same (h : ∀ q : TermPos, t.terms[q].term = s.terms[q].term) : heldTerms t = heldTerms s := by
  have held (u : State) : heldTerms u = (u.terms.map (·.term)).toList.filterMap id := by
    rw [Vector.toList_map, List.filterMap_map]
    rfl
  rw [held, held, show t.terms.map (·.term) = s.terms.map (·.term) from vector_ext fun q => by simpa using h q]

theorem namedStations_pairwise (terms : List Term) : (namedStations terms).Pairwise (· < ·) :=
  (List.pairwise_lt_finRange 63).filter _

/-- Fewer terms name no more stations. -/
theorem namedStations_length_le {l l' : List Term} (h : ∀ x ∈ l, x ∈ l') :
    (namedStations l).length ≤ (namedStations l').length := by
  refine List.Sublist.length_le (List.monotone_filter_right _ fun a ha => ?_)
  obtain ⟨x, hx, hnames⟩ := List.any_eq_true.1 ha
  exact List.any_eq_true.2 ⟨x, h x hx, hnames⟩

/-- A valve table of the stations named is in key order. -/
theorem valves_rising_of_named (h : ValvesNamed s) : keysRising valveOrd s.valves = true := by
  rw [keysRising_iff]
  have stations : (s.valves.map (·.station)).Pairwise (· < ·) := h ▸ namedStations_pairwise _
  exact (List.pairwise_map.1 stations).imp fun h => h

theorem putRec_keys {α : Type} {ord : α → Nat} {r x : α} {l : List α} (hl : keysRising ord l = true)
    (h : findRec ord (ord r) l = some x) : (putRec ord r l).map ord = l.map ord := by
  rw [keysRising_iff] at hl
  induction l with
  | nil => cases h
  | cons y ys ih =>
    obtain ⟨hy, hys⟩ := List.pairwise_cons.1 hl
    by_cases heq : ord r = ord y
    · simp [putRec, heq]
    · have htail : findRec ord (ord r) ys = some x := by simpa [findRec, Ne.symm heq] using h
      have hlt : ord y < ord r := findRec_ord htail ▸ hy x (findRec_mem htail)
      simp [putRec, hlt.not_gt, heq, ih hys htail]

/-- A valve entry put back keeps the stations of the table. -/
theorem putValve_stations {e : ValveEntry} {a : Station} {states : Vector ValveState 16} {seq : Byte}
    (h : ValvesNamed s) (found : s.valve? a = some e) :
    (s.putValve { e with states := states, lastSeq := some seq }).valves.map (·.station)
      = s.valves.map (·.station) := by
  have hkey : valveOrd e = a.val := findRec_ord found
  have keys := putRec_keys (r := { e with states := states, lastSeq := some seq }) (valves_rising_of_named h)
    (show findRec valveOrd (valveOrd e) s.valves = some e from hkey ▸ found)
  refine List.map_injective_iff.2 Fin.val_injective ?_
  rw [List.map_map, List.map_map]
  exact keys

/-- The valve table brought into line holds the stations named (R66). -/
theorem alignValves_named (s : State) : ValvesNamed (alignValves s) := by
  show ((namedStations (heldTerms s)).map _).map _ = namedStations (heldTerms s)
  rw [List.map_map]
  refine List.map_id'' (fun a => ?_) _
  show ((s.valve? a).getD (ValveEntry.created a)).station = a
  cases found : s.valve? a with
  | none => rfl
  | some e =>
    have hkey : valveOrd e = a.val := findRec_ord found
    exact Fin.ext hkey

theorem heldTerms_putTerm_decl (q : TermPos) (d : Decls TermDecl) :
    heldTerms (s.putTerm q { s.terms[q] with decl := d }) = heldTerms s := by
  refine heldTerms_of_same fun p => ?_
  show ((setPlace s.terms q _)[p]).term = _
  rw [setPlace_get]
  split
  · next h => rw [h]
  · rfl

theorem valvesNamed_recordAct (hact : RecordAct s t) (h : ValvesNamed s) : ValvesNamed t := by
  cases hact with
  | valve states seq found => exact (putValve_stations h found).trans h
  | term q hd => exact h.trans (congrArg _ (heldTerms_putTerm_decl q _).symm)
  | applyTerm term copy _ => exact alignValves_named _
  | begins _ => exact h.trans (congrArg _ (heldTerms_of_same fun q => by rw [beginPass_term]).symm)
  | @volume n e _ _ _ =>
    obtain ⟨-, -, hterms, hvalves, -⟩ := computeVolume_leaves (s := s) n e
    have hheld : heldTerms (computeVolume n s e) = heldTerms s := heldTerms_of_same fun q => by rw [hterms]
    exact (congrArg _ hvalves).trans (h.trans (congrArg _ hheld.symm))
  | _ => exact h

/-! ### The tables' form and capacity -/

/-- A table put right with a record of a key it holds, or with a new one where it has a place. -/
theorem table_putRec {α : Type} {ord : α → Nat} {l : List α} {cap : Nat} {r : α}
    (h : keysRising ord l = true ∧ l.length ≤ cap) (fits : (findRec ord (ord r) l).isSome = true ∨ l.length < cap) :
    keysRising ord (putRec ord r l) = true ∧ (putRec ord r l).length ≤ cap := by
  refine ⟨keysRising_putRec r h.1, ?_⟩
  rw [length_putRec r h.1]
  split
  · exact h.2
  · next hnone => exact (fits.resolve_left hnone)

theorem table_map {α : Type} {ord : α → Nat} {l : List α} {cap : Nat} {f : α → α} (hf : ∀ x, ord (f x) = ord x)
    (h : keysRising ord l = true ∧ l.length ≤ cap) :
    keysRising ord (l.map f) = true ∧ (l.map f).length ≤ cap :=
  ⟨keysRising_map hf h.1, by rw [List.length_map]; exact h.2⟩

theorem table_filter {α : Type} {ord : α → Nat} {l : List α} {cap : Nat} (p : α → Bool)
    (h : keysRising ord l = true ∧ l.length ≤ cap) :
    keysRising ord (l.filter p) = true ∧ (l.filter p).length ≤ cap :=
  ⟨keysRising_filter p h.1, (List.length_filter_le _ _).trans h.2⟩

/-- The valve table holds no more entries than it has places where it is the one the terms name. -/
theorem valves_table (named : ValvesNamed t) (h : (namedStations (heldTerms t)).length ≤ 8) :
    keysRising valveOrd t.valves = true ∧ t.valves.length ≤ 8 := by
  refine ⟨valves_rising_of_named named, ?_⟩
  rw [← List.length_map (f := (·.station)), named]
  exact h

theorem applyTerm_heldTerms (q : TermPos) (c : Copy TermDecl) (x : Term) :
    heldTerms (s.applyTerm q c (some x)) = termsWith s q x := by
  refine heldTerms_of_same fun p => ?_
  show ((setPlace s.terms q _)[p]).term = ((setPlace s.terms q _)[p]).term
  rw [setPlace_get, setPlace_get]
  split <;> rfl

theorem applyTerm_valves_length {q : TermPos} {c : Copy TermDecl} {term : Option Term}
    (htable : s.valves.length ≤ 8) (named : ValvesNamed s)
    (h : ∀ x, term = some x → (namedStations (termsWith s q x)).length ≤ maxValves) :
    (namedStations (heldTerms (s.applyTerm q c term))).length ≤ 8 := by
  cases term with
  | some x => exact applyTerm_heldTerms q c x ▸ h x rfl
  | none =>
    have fewer : ∀ x ∈ heldTerms (s.applyTerm q c none), x ∈ heldTerms s := by
      intro x hx
      obtain ⟨p, hp⟩ := mem_heldTerms.1 hx
      refine mem_heldTerms.2 ⟨p, ?_⟩
      change ((setPlace s.terms q ⟨_, none⟩)[p]).term = _ at hp
      rw [setPlace_get] at hp
      split at hp
      · cases hp
      · exact hp
    refine (namedStations_length_le fewer).trans ?_
    rw [← named, List.length_map]
    exact htable

theorem tablesSound_recordAct (hact : RecordAct s t) (h : TablesSound s) (named : ValvesNamed s) : TablesSound t := by
  have named' := valvesNamed_recordAct hact named
  obtain ⟨htanks, hmeters, hvalves, hpeers⟩ := h
  have tank {k : Key} {r x : TankRec} (found : s.tank? k = some r) (hk : x.key = r.key) :
      keysRising tankOrd (putRec tankOrd x s.tanks) = true ∧ (putRec tankOrd x s.tanks).length ≤ 48 := by
    refine table_putRec htanks (.inl ?_)
    have hr : tankOrd r = keyCode k := findRec_ord found
    have hord : tankOrd x = keyCode k := (congrArg keyCode hk).trans hr
    rw [hord]
    exact Option.isSome_iff_exists.2 ⟨r, found⟩
  have meter {k : Key} {r x : MeterRec} (found : s.meter? k = some r) (hk : x.key = r.key) :
      keysRising meterOrd (putRec meterOrd x s.meters) = true ∧ (putRec meterOrd x s.meters).length ≤ 12 := by
    refine table_putRec hmeters (.inl ?_)
    have hr : meterOrd r = keyCode k := findRec_ord found
    have hord : meterOrd x = keyCode k := (congrArg keyCode hk).trans hr
    rw [hord]
    exact Option.isSome_iff_exists.2 ⟨r, found⟩
  cases hact with
  | tank found hc => exact ⟨tank found (TankTurn.key_eq (s := s) (.change hc)), hmeters, hvalves, hpeers⟩
  | newTank c absent room => exact ⟨table_putRec htanks (.inr room), hmeters, hvalves, hpeers⟩
  | dropTank k => exact ⟨table_filter _ htanks, hmeters, hvalves, hpeers⟩
  | removeTank found => exact ⟨tank found rfl, hmeters, hvalves, hpeers⟩
  | acceptTank _ found _ _ => exact ⟨tank found rfl, hmeters, hvalves, hpeers⟩
  | meter found hc => exact ⟨htanks, meter found (by cases hc <;> rfl), hvalves, hpeers⟩
  | newMeter c absent room => exact ⟨htanks, table_putRec hmeters (.inr room), hvalves, hpeers⟩
  | dropMeter k => exact ⟨htanks, table_filter _ hmeters, hvalves, hpeers⟩
  | removeMeter found => exact ⟨htanks, meter found rfl, hvalves, hpeers⟩
  | acceptMeter found _ _ => exact ⟨htanks, meter found rfl, hvalves, hpeers⟩
  | uncredit p => exact ⟨htanks, table_map (fun _ => rfl) hmeters, hvalves, hpeers⟩
  | valve states seq found =>
    refine ⟨htanks, hmeters, valves_table named' ?_, hpeers⟩
    rw [← named', putValve_stations named found, List.length_map]
    exact hvalves.2
  | applyTerm term copy room =>
    exact ⟨htanks, hmeters, valves_table named' (applyTerm_valves_length hvalves.2 named room), hpeers⟩
  | openNow _ _ _ => exact ⟨table_map (fun _ => rfl) htanks, hmeters, hvalves, hpeers⟩
  | release p => exact ⟨table_map (fun _ => rfl) htanks, hmeters, hvalves, hpeers⟩
  | rearm p rev =>
    refine ⟨htanks, hmeters, hvalves, table_map (fun e => ?_) hpeers⟩
    split <;> rfl
  | dropPeers keep => exact ⟨htanks, hmeters, hvalves, table_filter _ hpeers⟩
  | peer e fits => exact ⟨htanks, hmeters, hvalves, table_putRec hpeers fits⟩
  | begins _ => exact ⟨table_map (fun _ => rfl) htanks, table_map (fun _ => rfl) hmeters, hvalves, hpeers⟩
  | @volume n e _ _ _ =>
    obtain ⟨hm, -, -, hv, hp⟩ := computeVolume_leaves (s := s) n e
    rw [TablesSound, reach_meters, reach_valves, reach_peers, hm, hv, hp]
    refine ⟨?_, hmeters, hvalves, hpeers⟩
    rw [reach_tanks]
    unfold computeVolume
    cases found : s.tank? e.key with
    | none => exact htanks
    | some r => exact tank found (tankVolume_leaves n s r).1
  | _ => exact ⟨htanks, hmeters, hvalves, hpeers⟩

end Sys2Proof.Laws
end

section
/-! PROOFS. Every step keeps the tables. -/

namespace Sys2Proof.Proofs

open Machine Safety Laws

/-- What every act on the records keeps, whatever the queues hold, and what the reset brings, every act keeps. -/
theorem act_keeps_of_records {P : State → Prop} (records : ∀ s t, RecordAct s t → P s → P t)
    (queues : ∀ s x, P s → P (keepRecords s x))
    (reset : ∀ address role rate esd n l, P (State.atResetEnd address role rate esd n l)) :
    ∀ s t, Act s t → P s → P t := by
  intro s t hact hs
  cases hact with
  | record h => exact records s t h hs
  | queue h =>
    obtain ⟨x, rfl⟩ := queueAct_keeps_records h
    exact queues s x hs
  | reset => exact reset _ _ _ _ _ _

/-- What every act keeps, every step keeps; the commands that wait apart. -/
theorem step_keeps_of_acts {P : State → Prop} (acts : ∀ s t, Act s t → P s → P t)
    (pending : ∀ s l, P s → P { s with pending := l }) {s t : State} (hstep : step s = .next t) (hs : P s) : P t := by
  obtain ⟨u, hu, hacts⟩ := step_acts s
  obtain rfl : u = t := by simpa [hu] using hstep
  exact hacts.keeps acts (pending s _ hs)

section Reset

variable (address : Fin 27) (role : Role) (rate : BusRate) (esd : EsdLevel) (n : Nat) (l : List Instr)

theorem atResetEnd_valvesNamed : ValvesNamed (State.atResetEnd address role rate esd n l) :=
  (by decide : ValvesNamed State.reset)

theorem atResetEnd_tables : TablesSound (State.atResetEnd address role rate esd n l) :=
  ⟨⟨rfl, Nat.zero_le _⟩, ⟨rfl, Nat.zero_le _⟩, ⟨rfl, Nat.zero_le _⟩, ⟨rfl, Nat.zero_le _⟩⟩

theorem atResetEnd_revisions : RevisionsForward (State.atResetEnd address role rate esd n l) :=
  (by decide : RevisionsForward State.reset)

theorem atResetEnd_work : WorkWithCurrent (State.atResetEnd address role rate esd n l) :=
  ⟨fun _ h => (nomatch h), fun _ h => (nomatch h)⟩

end Reset

/-- Settles O57: each invariant is kept by every act, those over records record by record. -/
theorem stepsKeepTables : Obligations.StepsKeepTables := by
  intro s t hstep
  have named := step_keeps_of_acts (P := fun s => ValvesNamed s)
    (act_keeps_of_records (fun _ _ => valvesNamed_recordAct) (fun _ _ h => h) atResetEnd_valvesNamed)
    (fun _ _ h => h) hstep
  have tables := step_keeps_of_acts (P := fun s => TablesSound s ∧ ValvesNamed s)
    (act_keeps_of_records
      (fun _ _ hact h => ⟨tablesSound_recordAct hact h.1 h.2, valvesNamed_recordAct hact h.2⟩) (fun _ _ h => h)
      fun _ _ _ _ _ _ => ⟨atResetEnd_tables _ _ _ _ _ _, atResetEnd_valvesNamed _ _ _ _ _ _⟩)
    (fun _ _ h => h) hstep
  refine ⟨fun h hv => (tables ⟨h, hv⟩).1, named, ?_, ?_⟩
  · exact step_keeps_of_acts (P := fun s => RevisionsForward s)
      (act_keeps_of_records (fun _ _ => revisionsForward_recordAct) (fun _ _ h => h) atResetEnd_revisions)
      (fun _ _ h => h) hstep
  · exact step_keeps_of_acts (P := fun s => WorkWithCurrent s)
      (act_keeps_of_records (fun _ _ => workWithCurrent_recordAct) (fun _ _ h => h) atResetEnd_work)
      (fun _ _ h => h) hstep

end Sys2Proof.Proofs
end

section
/-! SUPPORT. Every act keeps the engine's buffers to the stages that use them, and the parcels', meters' and tanks' fields
within their ranges (R40, R49, R59, R77, R79, R84, R90, R105, R109, R115, R125). -/

namespace Sys2Proof.Laws

open Machine Safety

variable {s t : State}

/-! ### Meters and tanks -/

theorem meterAccepted_sound {w : Option MeterWork} {factor : Nat} (hf : factorOk factor = true)
    (h : ∀ v ∈ w, MeterSound v) : MeterSound (meterAccepted w factor) := by
  simp only [factorOk, Bool.and_eq_true, decide_eq_true_eq] at hf
  obtain ⟨hlo, hhi⟩ := hf
  cases w with
  | none => exact ⟨hlo, hhi, Nat.pos_of_neZero _, Nat.pos_of_neZero _, Nat.zero_le _, Nat.zero_le _, Nat.zero_le _⟩
  | some v =>
    obtain ⟨-, -, hrest⟩ := h v rfl
    exact ⟨hlo, hhi, hrest⟩

theorem MeterTurn.sound {r r' : MeterRec} (h : MeterTurn r r') (hr : ∀ w ∈ r.work, MeterSound w) :
    ∀ w ∈ r'.work, MeterSound w := by
  cases h with
  | same => exact hr
  | change h =>
    cases h with
    | decl => exact hr
    | work f hf =>
      intro w hw
      obtain ⟨v, hv, rfl⟩ := Option.map_eq_some_iff.1 hw
      exact hf v hv (hr v hv)
  | removed => exact fun _ h => nomatch h
  | accepted _ hfactor =>
    rintro w ⟨⟩
    exact meterAccepted_sound hfactor hr

theorem metersSound_recordAct (hact : RecordAct s t) (h : MetersSound s) : MetersSound t := by
  intro r hr
  rcases meters_from hact hr with ⟨k, c, rfl⟩ | ⟨r0, hr0, hturn⟩
  · exact fun _ h => nomatch h
  · exact hturn.sound (h r0 hr0)

theorem gauge_sound {w : TankWork} (m : GaugeMsg) (h : GaugeSound w) : GaugeSound (w.gauge m) := by
  obtain ⟨hconfirm, hnone⟩ := h
  have accepted {v : TankWork} {x : GaugeReading} : GaugeSound (v.accept x) := ⟨Nat.zero_le _, fun hn => nomatch hn⟩
  unfold TankWork.gauge
  split
  · unfold TankWork.takeReading
    split
    · split
      · exact accepted
      · next last hlast =>
        split
        · exact accepted
        · split
          · next hlt => exact ⟨hlt, fun hn => absurd (hlast.symm.trans hn) (by simp)⟩
          · exact ⟨Nat.zero_le _, fun hn => nomatch hn⟩
    · exact ⟨Nat.zero_le _, fun _ => ⟨rfl, rfl⟩⟩
  · exact ⟨hconfirm, hnone⟩

/-- Under an accepted declaration a tank keeps its reading fields, or has those of a new record (R41, R44). -/
theorem tankAccepted_gauge {w : Option TankWork} (side : Side) (parcel : Option ParcelNo)
    (h : ∀ v ∈ w, GaugeSound v) : GaugeSound (tankAccepted w side parcel) := by
  cases w with
  | none => exact ⟨Nat.zero_le _, fun _ => ⟨rfl, rfl⟩⟩
  | some v =>
    unfold tankAccepted
    dsimp only
    split <;> exact h v rfl

/-- Stage 4 leaves a tank's reading, its sequence and its assignment as they are. -/
theorem tankVolume_work {n : Snapshot} {r : TankRec} {w : TankWork} (hw : w ∈ (tankVolume n s r).work) :
    ∃ v ∈ r.work, w = { v with
      current := w.current, volumeClamped := w.volumeClamped, tempClamped := w.tempClamped } := by
  unfold tankVolume at hw
  split at hw
  · next v _ hv _ =>
    split at hw
    · cases hw
      exact ⟨v, hv, rfl⟩
    · split at hw
      · exact ⟨w, hw, rfl⟩
      · split at hw <;> cases hw <;> exact ⟨v, hv, rfl⟩
  · exact ⟨w, hw, rfl⟩

theorem TankTurn.gauges {r r' : TankRec} (h : TankTurn s r r') (hr : ∀ w ∈ r.work, GaugeSound w) :
    ∀ w ∈ r'.work, GaugeSound w := by
  intro w hw
  cases h with
  | same => exact hr w hw
  | change h =>
    cases h with
    | decl => exact hr w hw
    | gauge m hv =>
      cases hw
      exact gauge_sound m (hr _ hv)
  | removed => cases hw
  | accepted =>
    cases hw
    exact tankAccepted_gauge _ _ hr
  | opened p =>
    obtain ⟨v, hv, rfl⟩ := Option.map_eq_some_iff.1 hw
    split <;> exact hr v hv
  | released p =>
    obtain ⟨v, hv, rfl⟩ := Option.map_eq_some_iff.1 hw
    split <;> exact hr v hv
  | computed n =>
    obtain ⟨v, hv, e⟩ := tankVolume_work hw
    rw [e]
    exact hr v hv

theorem gaugesSound_recordAct (hact : RecordAct s t) (h : GaugesSound s) : GaugesSound t := by
  intro r hr
  rcases tanks_from hact hr with ⟨k, c, rfl⟩ | ⟨r0, hr0, hturn⟩
  · exact fun _ h => nomatch h
  · exact hturn.gauges (h r0 hr0)

/-! ### Parcels -/

theorem steppedCount_le (excursive : Bool) (count depth : Nat) : steppedCount excursive count depth ≤ depth := by
  unfold steppedCount
  split
  · exact Nat.min_le_right _ _
  · exact Nat.zero_le _

theorem holdSet_isEmpty_iff (h : HoldSet) : h.isEmpty = true ↔ h = HoldSet.empty := by
  obtain ⟨a, b, c, d⟩ := h
  simp [HoldSet.isEmpty, HoldSet.empty, and_assoc]

theorem parcelRefusal_inRange {r : ParcelRec} {d : ParcelDecl} (h : parcelRefusal r d = none) :
    parcelInRange d = true := by
  unfold parcelRefusal at h
  split at h
  · next hrange => exact hrange
  · cases h

theorem working_ne_vacant {x : ParcelState} (h : x.working = true) : x ≠ .vacant := by
  rintro rfl
  cases h

/-- A change of the declaration state that keeps the current declaration keeps a parcel sound. -/
theorem parcelSound_decl {r : ParcelRec} {d : Decls ParcelDecl} (hd : d.current = r.decl.current) (h : ParcelSound r) :
    ParcelSound { r with decl := d } := by
  simpa only [ParcelSound, ParcelRec.depth, hd] using h

theorem satLimit_nonneg : 0 ≤ satLimit := by decide

theorem saturate_range {x : Int} (h : 0 ≤ x) : 0 ≤ (saturate x).value ∧ (saturate x).value ≤ satLimit := by
  unfold saturate satLimit
  split
  · simp
  · split
    · omega
    · dsimp only
      omega

theorem ParcelChange.sound {r r' : ParcelRec} (hc : ParcelChange r r') (h : ParcelSound r) : ParcelSound r' := by
  obtain ⟨hcurrent, hvacant, hholds, hcount, hlo, hhi⟩ := id h
  cases hc with
  | decl hd => exact parcelSound_decl hd.current_eq h
  | credited litres saturation =>
    obtain ⟨hlo', hhi'⟩ := saturate_range (x := r.meterTotal + litres) (by omega)
    exact ⟨hcurrent, hvacant, hholds, hcount, hlo', hhi'⟩
  | stepped excursive => exact ⟨hcurrent, hvacant, hholds, steppedCount_le _ _ _, hlo, hhi⟩
  | held add =>
    unfold ParcelRec.addHold
    split
    · next hw => exact ⟨hcurrent, fun _ => hvacant (working_ne_vacant hw), fun hn => absurd rfl hn, hcount, hlo, hhi⟩
    · exact h
  | recomputed x hw =>
    refine ⟨hcurrent, fun _ => hvacant (working_ne_vacant hw), fun hn => ?_, hcount, hlo, hhi⟩
    by_contra hx
    exact hn (if_neg fun he => hx ((holdSet_isEmpty_iff x).1 he))
  | closed _ hw => exact ⟨hcurrent, fun _ => hvacant (working_ne_vacant hw), fun _ => rfl, hcount, hlo, hhi⟩
  | _ => exact h

theorem ParcelTurn.sound {r r' : ParcelRec} (ht : ParcelTurn s r r') (h : ParcelSound r) : ParcelSound r' := by
  obtain ⟨hcurrent, hvacant, hholds, hcount, hlo, hhi⟩ := id h
  cases ht with
  | change hc => exact hc.sound h
  | begun => exact parcelSound_decl (toHandOver_current _) h
  | @declared c _ _ hok =>
    refine ⟨?_, fun _ => rfl, fun hn => ?_, Nat.zero_le _, hlo, hhi⟩
    · rintro x ⟨⟩
      exact ⟨parcelRefusal_inRange hok, rfl⟩
    · have hstate : r.state ≠ .held := by
        rintro hheld
        refine hn ?_
        simp [ParcelRec.declared, hheld]
      show { r.holds with excursionHold := false } = HoldSet.empty
      rw [hholds hstate]
      rfl
  | openedNow hd =>
    exact ⟨hcurrent, fun _ => hvacant (by simp [hd]), fun _ => rfl, Nat.zero_le _, Int.le_refl _, satLimit_nonneg⟩
  | releasedNow => exact ⟨hcurrent, fun hn => absurd rfl hn, fun _ => rfl, Nat.zero_le _, Int.le_refl _, satLimit_nonneg⟩
  | published x => exact h

theorem parcelsSound_recordAct (hact : RecordAct s t) (h : ParcelsSound s) : ParcelsSound t := by
  intro r hr
  obtain ⟨q, rfl⟩ := (mem_toList_iff _ _).1 hr
  exact (parcels_from hact q).sound (h _ (get_mem_toList _ q))

/-! ### The engine -/

theorem Follows.holdsSnapshot_eq {g g' : Stage} (h : Follows g g') :
    holdsSnapshot (.running g') = holdsSnapshot (.running g) := by
  cases h <;> rfl

/-- Evaluated sets stand at stages 7 and 8 alone; no stage follows 8, and none comes before 7 that has them. -/
theorem Follows.evaluated {g g' : Stage} (h : Follows g g') (hf : g' ≠ .publication) :
    g ≠ .figures ∧ g ≠ .publication := by
  cases h <;> simp_all

theorem engineSound_recordAct (hact : RecordAct s t) (h : EngineSound s) : EngineSound t := by
  obtain ⟨hsnapshot, hnone, hfrom, hvisited, hpending⟩ := id h
  cases hact with
  | begins hidle =>
    refine ⟨?_, fun _ _ => hnone (by simp [hidle]) (by simp [hidle]), fun _ hf => (by cases hf), fun _ => rfl,
      fun hi => (by cases hi)⟩
    exact hsnapshot.trans (by rw [hidle]; rfl)
  | request hbusy => exact ⟨hsnapshot, hnone, hfrom, hvisited, fun hi => absurd hi hbusy⟩
  | @advance g g' stage next _ =>
    have held : s.ee.snapshot.isSome = holdsSnapshot (.running g') := by
      rw [hsnapshot, stage, next.holdsSnapshot_eq]
    have none_of (hg : g' ≠ .publication) : ∀ e ∈ s.ee.evaluated.toList, e = none := by
      obtain ⟨h7, h8⟩ := next.evaluated hg
      exact hnone (by simpa [stage] using h7) (by simpa [stage] using h8)
    refine ⟨held, fun _ hg => none_of fun e => hg (congrArg PassState.running e), fun p hf _ => ?_, fun _ => rfl,
      fun hi => (by cases hi)⟩
    have hg' : g' = .figures := PassState.running.inj hf
    exact none_of (by simp [hg']) _ (get_mem_toList _ p)
  | fill stage =>
    exact ⟨rfl, fun _ _ => hnone (by simp [stage]) (by simp [stage]), fun _ hf => (by cases hf), fun _ => rfl,
      fun hi => (by cases hi)⟩
  | reach counts _ hle =>
    exact ⟨hsnapshot, hnone, fun p hf hp => hfrom p hf (hle.trans hp),
      fun hc => absurd (counts.symm.trans hc) (by simp), hpending⟩
  | @volume n e stage held hx =>
    rw [EngineSound, show (reach _ (computeVolume n s e)).ee = { s.ee with visited := s.ee.visited + 1 } by
      rw [reach, computeVolume_ee]]
    refine ⟨hsnapshot, hnone, fun p hf => absurd (stage.symm.trans hf) (by simp),
      fun hc => ?_, hpending⟩
    have counts : countsVisits s.ee.pass = true := by rw [stage]; rfl
    exact absurd (counts.symm.trans hc) (by simp)
  | @keep p f stage hp =>
    refine ⟨hsnapshot, fun hf => absurd stage hf, fun q hf hq => ?_, hvisited, hpending⟩
    show (setPlace s.ee.evaluated p (some f))[q] = none
    rw [setPlace_get_ne _ _ (by rintro rfl; exact absurd hp (Nat.not_lt.2 hq))]
    exact hfrom q hf hq
  | complete _ =>
    refine ⟨rfl, fun _ _ e he => ?_, fun _ hf => (by cases hf), fun _ => rfl, fun _ => rfl⟩
    obtain ⟨q, rfl⟩ := (mem_toList_iff _ _).1 he
    simp [endPass]
  | _ => exact h

end Sys2Proof.Laws
end

section
/-! PROOFS. Every step keeps the engine, the parcels, the meters and the tanks. -/

namespace Sys2Proof.Proofs

open Machine Safety Laws

section Reset

variable (address : Fin 27) (role : Role) (rate : BusRate) (esd : EsdLevel) (n : Nat) (l : List Instr)

theorem atResetEnd_engine : EngineSound (State.atResetEnd address role rate esd n l) :=
  (by decide : EngineSound State.reset)

theorem atResetEnd_parcels : ParcelsSound (State.atResetEnd address role rate esd n l) :=
  (by decide : ParcelsSound State.reset)

theorem atResetEnd_meters : MetersSound (State.atResetEnd address role rate esd n l) := fun _ h => (nomatch h)

theorem atResetEnd_gauges : GaugesSound (State.atResetEnd address role rate esd n l) := fun _ h => (nomatch h)

end Reset

/-- Settles O58: every act keeps the engine, and every record its act touches. -/
theorem stepsKeepRecords : Obligations.StepsKeepRecords := by
  intro s t hstep
  refine ⟨?_, ?_, ?_, ?_⟩
  · exact step_keeps_of_acts (P := fun s => EngineSound s)
      (act_keeps_of_records (fun _ _ => engineSound_recordAct) (fun _ _ h => h) atResetEnd_engine)
      (fun _ _ h => h) hstep
  · exact step_keeps_of_acts (P := fun s => ParcelsSound s)
      (act_keeps_of_records (fun _ _ => parcelsSound_recordAct) (fun _ _ h => h) atResetEnd_parcels)
      (fun _ _ h => h) hstep
  · exact step_keeps_of_acts (P := fun s => MetersSound s)
      (act_keeps_of_records (fun _ _ => metersSound_recordAct) (fun _ _ h => h) atResetEnd_meters)
      (fun _ _ h => h) hstep
  · exact step_keeps_of_acts (P := fun s => GaugesSound s)
      (act_keeps_of_records (fun _ _ => gaugesSound_recordAct) (fun _ _ h => h) atResetEnd_gauges)
      (fun _ _ h => h) hstep

end Sys2Proof.Proofs
end

section
/-! SUPPORT. Every tank assigned to an opened parcel has an opening standard volume (R53, R55): what a tank holds is kept
by every act, with the snapshot's entries that it rests on. -/

namespace Sys2Proof.Laws

open Machine Safety

variable {s t : State}

/-! ### What the tank table and the snapshot hold -/

/-- Every assigned tank holds what its parcel's state calls for. -/
def TanksHold (s : State) : Prop := ∀ r ∈ s.tanks, ∀ w ∈ r.work, ∀ p ∈ w.parcel, TankHolds s r.key w p

/-- Two records of one key in a table in key order are one. -/
theorem tank_unique {l : List TankRec} (h : keysRising tankOrd l = true) {r r' : TankRec} (hr : r ∈ l) (hr' : r' ∈ l)
    (hk : r'.key = r.key) : r' = r := by
  have found := findRec_of_mem h hr
  have found' := findRec_of_mem h hr'
  have hord : tankOrd r' = tankOrd r := congrArg keyCode hk
  rw [hord] at found'
  exact Option.some.inj (found'.symm.trans found)

theorem mem_takeSnapshot_tanks {e : TankSnap} : e ∈ (takeSnapshot s).tanks ↔
    ∃ r ∈ s.tanks, ∃ w, r.work = some w ∧ e = ⟨r.key, w.side, w.parcel, w.reading, w.gaugeInvalid⟩ := by
  show e ∈ snapTanks s ↔ _
  rw [snapTanks, List.mem_filterMap]
  simp only [Option.map_eq_some_iff, @eq_comm _ _ e]

theorem snapshot_tank?_mem {n : Snapshot} {k : Key} {e : TankSnap} (h : n.tank? k = some e) :
    e ∈ n.tanks ∧ e.key = k := ⟨List.mem_of_find?_eq_some h, by simpa using List.find?_some h⟩

theorem snapshot_tank?_isSome {n : Snapshot} {e : TankSnap} (h : e ∈ n.tanks) : ∃ e', n.tank? e.key = some e' := by
  cases hf : n.tank? e.key with
  | some e' => exact ⟨e', rfl⟩
  | none => simpa using List.find?_eq_none.1 hf e h

/-! ### The snapshot's gauges -/

/-- The snapshot is left, taken or discarded by an act. -/
theorem snapshot_from (h : RecordAct s t) :
    t.ee.snapshot = s.ee.snapshot ∨ t.ee.snapshot = none
      ∨ t.ee.snapshot = some (takeSnapshot s) ∧ t.tanks = s.tanks := by
  cases h with
  | fill => exact .inr (.inr ⟨rfl, rfl⟩)
  | complete => exact .inr (.inl rfl)
  | volume _ _ _ => exact .inl (congrArg (·.snapshot) (computeVolume_ee _ _))
  | _ => exact .inl rfl

theorem gauge_reading {w : TankWork} (m : GaugeMsg) (h : w.reading.isSome = true) :
    (w.gauge m).reading.isSome = true := by
  unfold TankWork.gauge
  split
  · unfold TankWork.takeReading
    split
    · split
      · rfl
      · split
        · rfl
        · split
          · exact h
          · rfl
    · exact h
  · exact h

/-- Outside stage 1 a record that has a last accepted reading keeps one while it holds working fields. -/
theorem TankTurn.reading {r r' : TankRec} (ht : TankTurn s r r') (hstage : s.ee.pass ≠ .running .handOver)
    (h : ∀ w ∈ r.work, w.reading.isSome = true) : ∀ w ∈ r'.work, w.reading.isSome = true := by
  intro w hw
  cases ht with
  | same => exact h w hw
  | change hc =>
    cases hc with
    | decl => exact h w hw
    | gauge m hv =>
      cases hw
      exact gauge_reading m (h _ hv)
  | removed => cases hw
  | accepted stage => exact absurd stage hstage
  | opened p =>
    obtain ⟨v, hv, rfl⟩ := Option.map_eq_some_iff.1 hw
    split <;> exact h v hv
  | released p =>
    obtain ⟨v, hv, rfl⟩ := Option.map_eq_some_iff.1 hw
    split <;> exact h v hv
  | computed n =>
    obtain ⟨v, hv, e⟩ := tankVolume_work hw
    rw [e]
    exact h v hv

/-- No snapshot stands at stage 1. -/
theorem no_snapshot_at_handOver (h : EngineSound s) (stage : s.ee.pass = .running .handOver) :
    s.ee.snapshot = none := by
  have held := h.1
  rw [stage] at held
  exact Option.not_isSome_iff_eq_none.1 (by rw [held]; decide)

theorem snapshotGauges_recordAct (hact : RecordAct s t) (hengine : EngineSound s) (htables : TablesSound s)
    (hgauges : GaugesSound s) (h : SnapshotGauges s) : SnapshotGauges t := by
  intro n hn e he
  rcases snapshot_from hact with hsame | hnone | ⟨htaken, htanks⟩
  · have hn' : n ∈ s.ee.snapshot := hsame ▸ hn
    obtain ⟨hvalid, hreading⟩ := h n hn' e he
    have hstage : s.ee.pass ≠ .running .handOver := fun hs => by
      rw [no_snapshot_at_handOver hengine hs] at hn'
      cases hn'
    refine ⟨hvalid, fun hr r' hr' hk => ?_⟩
    rcases tanks_from hact hr' with ⟨k, c, rfl⟩ | ⟨r, hmem, hturn⟩
    · exact fun _ hw => nomatch hw
    · exact hturn.reading hstage (hreading hr r hmem (hturn.key_eq ▸ hk))
  · rw [hnone] at hn
    cases hn
  · rw [htaken] at hn
    cases hn
    obtain ⟨r, hr, w, hw, rfl⟩ := mem_takeSnapshot_tanks.1 he
    have hgauge := hgauges r hr w hw
    refine ⟨fun hvalid => ?_, fun hreading r' hr' hk w' hw' => ?_⟩
    · by_contra hnoreading
      exact absurd ((hgauge.2 (by simpa using hnoreading)).2) (by simp [show w.gaugeInvalid = false from hvalid])
    · obtain rfl := tank_unique htables.1.1 hr (htanks ▸ hr') hk
      cases hw.symm.trans hw'
      exact hreading

/-! ### What a tank holds -/

/-- What a tank held it holds, where it has lost none of its volumes, its parcel is no further on, and the stage
calls for no more. -/
theorem tankHolds_transfer {k : Key} {w w' : TankWork} {p : ParcelNo} (h : TankHolds s k w p)
    (hreading : w.reading.isSome = true → w'.reading.isSome = true)
    (hcurrent : w.current.isSome = true → w'.current.isSome = true)
    (hopening : w.opening.isSome = true → w'.opening.isSome = true)
    (hopened : t.parcels[p].state.opened = true → s.parcels[p].state.opened = true)
    (hdeclared : t.parcels[p].state = .declared → s.parcels[p].state = .declared)
    (hsnapshot : t.ee.snapshot = s.ee.snapshot)
    (hbefore : beforeVolumes t.ee.pass = true → beforeVolumes s.ee.pass = true)
    (hvolumes : ∀ n ∈ s.ee.snapshot, (∃ e ∈ volumesComputed t n, e.key = k) → ∃ e ∈ volumesComputed s n, e.key = k) :
    TankHolds t k w' p := by
  obtain ⟨hopen, hdecl⟩ := h
  refine ⟨fun ho => ?_, fun hd n hn hcomputed hvalid => ?_⟩
  · obtain ⟨hr, hc, hop, hentry⟩ := hopen (hopened ho)
    exact ⟨hreading hr, hcurrent hc, hopening hop, fun hb => hsnapshot ▸ hentry (hbefore hb)⟩
  · rw [hsnapshot] at hn
    exact hcurrent (hdecl (hdeclared hd) n hn (hvolumes n hn hcomputed) hvalid)

/-- The tank table, the engine and the states of the parcels left as they are keep what the tanks hold. -/
theorem tanksHold_of_states (htanks : t.tanks = s.tanks) (hee : t.ee = s.ee)
    (hopened : ∀ p : ParcelNo, t.parcels[p].state.opened = true → s.parcels[p].state.opened = true)
    (hdeclared : ∀ p : ParcelNo, t.parcels[p].state = .declared → s.parcels[p].state = .declared)
    (h : TanksHold s) : TanksHold t := by
  intro r hr w hw p hp
  refine tankHolds_transfer (h r (htanks ▸ hr) w hw p hp) id id id (hopened p) (hdeclared p) (by rw [hee])
    (by rw [hee]; exact id) fun n _ hc => ?_
  rwa [volumesComputed, hee] at hc

theorem working_opened {x : ParcelState} (h : x.working = true) : x.opened = true := by
  cases x <;> first | rfl | cases h

theorem ParcelChange.opened {r r' : ParcelRec} (h : ParcelChange r r') (ho : r'.state.opened = true) :
    r.state.opened = true := by
  cases h with
  | held add =>
    by_cases hw : r.state.working = true
    · exact working_opened hw
    · rwa [ParcelRec.addHold, if_neg hw] at ho
  | recomputed _ hw => exact working_opened hw
  | closed _ hw => exact working_opened hw
  | _ => exact ho

theorem ParcelChange.declared {r r' : ParcelRec} (h : ParcelChange r r') (hd : r'.state = .declared) :
    r.state = .declared := by
  cases h with
  | held add =>
    by_cases hw : r.state.working = true
    · rw [ParcelRec.addHold, if_pos hw] at hd
      cases hd
    · rwa [ParcelRec.addHold, if_neg hw] at hd
  | recomputed x _ =>
    change (if x.isEmpty then ParcelState.active else .held) = .declared at hd
    split at hd <;> cases hd
  | closed => cases hd
  | _ => exact hd

theorem gauge_leaves (w : TankWork) (m : GaugeMsg) :
    (w.gauge m).parcel = w.parcel ∧ (w.gauge m).current = w.current ∧ (w.gauge m).opening = w.opening := by
  unfold TankWork.gauge
  split
  · unfold TankWork.takeReading
    split
    · split
      · exact ⟨rfl, rfl, rfl⟩
      · split
        · exact ⟨rfl, rfl, rfl⟩
        · split <;> exact ⟨rfl, rfl, rfl⟩
    · exact ⟨rfl, rfl, rfl⟩
  · exact ⟨rfl, rfl, rfl⟩

/-- A tank's record changed where it stands holds what it held. -/
theorem tankChange_holds {r r' : TankRec} (hc : TankChange r r')
    (h : ∀ w ∈ r.work, ∀ p ∈ w.parcel, TankHolds s r.key w p) :
    ∀ w ∈ r'.work, ∀ p ∈ w.parcel, TankHolds s r'.key w p := by
  cases hc with
  | decl => exact h
  | @gauge v m hv =>
    rintro w ⟨⟩ p hp
    obtain ⟨hparcel, hcurrent, hopening⟩ := gauge_leaves v m
    rw [hparcel] at hp
    exact tankHolds_transfer (h v hv p hp) (gauge_reading m) (by rw [hcurrent]; exact id) (by rw [hopening]; exact id)
      id id rfl id fun _ _ => id

/-- A record put in place of one, with the others left, keeps what the tanks hold where the new one does. -/
theorem tanksHold_putTank {x : TankRec} (h : TanksHold s) (hx : ∀ w ∈ x.work, ∀ p ∈ w.parcel, TankHolds s x.key w p) :
    TanksHold (s.putTank x) := by
  intro r hr
  rcases mem_putRec hr with rfl | hmem
  · exact hx
  · exact h r hmem

/-- An accepted assignment is to no opened parcel but the one it was to before (R43). -/
theorem tankProtected_eq_false {w : Option TankWork} {side : Side} {parcel : Option ParcelNo}
    (h : tankProtected s w side parcel = false) :
    assignedOpened s parcel = false ∨ ∃ old, w = some old ∧ old.parcel = parcel := by
  cases w with
  | none => exact .inl h
  | some old =>
    by_cases hp : old.parcel = parcel
    · exact .inr ⟨old, rfl, hp⟩
    · refine .inl ?_
      simp only [tankProtected, Bool.or_eq_false_iff, Bool.and_eq_false_iff] at h
      exact h.2.resolve_right (by simpa using Ne.symm hp)

/-- A tank accepted at stage 1 holds what its parcel calls for: an opened parcel's tank set is protected, and no
snapshot stands yet. -/
theorem tankAccepted_holds {r : TankRec} {side : Side} {parcel : Option ParcelNo} (hsnapshot : s.ee.snapshot = none)
    (hprotected : tankProtected s r.work side parcel = false)
    (h : ∀ w ∈ r.work, ∀ p ∈ w.parcel, TankHolds s r.key w p) :
    ∀ p ∈ (tankAccepted r.work side parcel).parcel, TankHolds s r.key (tankAccepted r.work side parcel) p := by
  intro p hp
  refine ⟨fun ho => ?_, fun _ n hn => (by rw [hsnapshot] at hn; cases hn)⟩
  rcases tankProtected_eq_false hprotected with hclosed | ⟨old, hold, hsame⟩
  · have hparcel : (tankAccepted r.work side parcel).parcel = parcel := by
      unfold tankAccepted
      split
      · rfl
      · split
        · next hs => exact hs
        · rfl
    rw [hparcel] at hp
    cases hp
    exact absurd (ho.symm.trans hclosed) (by simp)
  · rw [hold] at hp ⊢
    simp only [tankAccepted, if_pos hsame] at hp ⊢
    exact (h old hold p hp).1 ho

/-! ### Stage 4 -/

/-- A parcel that stage 4 computes has an α (R53, R84). -/
theorem computingAlpha_isSome {p : ParcelNo} (h : ParcelSound s.parcels[p])
    (hstate : s.parcels[p].state.computesTanks = true) : ∃ alpha, computingAlpha s p = some alpha := by
  obtain ⟨hcurrent, hvacant, -⟩ := h
  have hne : s.parcels[p].state ≠ .vacant := by
    intro hv
    rw [hv] at hstate
    cases hstate
  obtain ⟨c, hc⟩ := Option.isSome_iff_exists.1 (hvacant hne)
  exact ⟨_, (if_pos hstate).trans (hcurrent c hc).2⟩

theorem tankVolume_closed {n : Snapshot} {r : TankRec} {w : TankWork} {p : ParcelNo} (hw : r.work = some w)
    (hp : w.parcel = some p) (hclosed : s.parcels[p].state = .closed) : tankVolume n s r = r := by
  unfold tankVolume
  rw [hw]
  split
  · next hv _ =>
    cases hv
    rw [hp]
    dsimp only
    rw [if_pos hclosed]
  · rfl

/-- Stage 4 gives a tank of a DECLARED, ACTIVE or HELD parcel with a snapshot reading a volume (R53). -/
theorem tankVolume_computed {n : Snapshot} {e : TankSnap} {r : TankRec} {w v : TankWork} {p : ParcelNo}
    (hw : r.work = some w) (hp : w.parcel = some p) (hparcel : ParcelSound s.parcels[p])
    (hstate : s.parcels[p].state.computesTanks = true) (he : n.tank? r.key = some e)
    (hreading : e.reading.isSome = true) (hv : v ∈ (tankVolume n s r).work) : v.current.isSome = true := by
  obtain ⟨alpha, halpha⟩ := computingAlpha_isSome hparcel hstate
  obtain ⟨reading, hread⟩ := Option.isSome_iff_exists.1 hreading
  have hopen : s.parcels[p].state ≠ .closed := by
    intro hc
    rw [hc] at hstate
    cases hstate
  have computed : tankVolume n s r = { r with work := some (w.computed alpha reading) } := by
    unfold tankVolume
    rw [hw, he]
    dsimp only
    rw [hp]
    dsimp only
    rw [if_neg hopen, halpha, hread]
  rw [computed] at hv
  cases hv
  rfl

theorem opened_cases {x : ParcelState} (h : x.opened = true) : x = .closed ∨ x.computesTanks = true := by
  cases x <;> simp_all [ParcelState.opened, ParcelState.computesTanks]

/-- The tank that stage 4 deals with holds what its parcel calls for (R53). -/
theorem tankVolume_holds {n : Snapshot} {e : TankSnap} {r : TankRec} (hmem : e ∈ n.tanks) (hk : e.key = r.key)
    (stage : s.ee.pass = .running .tankVolumes) (held : s.ee.snapshot = some n) (hparcels : ParcelsSound s)
    (hgauges : SnapshotGauges s) (h : ∀ w ∈ r.work, ∀ p ∈ w.parcel, TankHolds s r.key w p) (visited : Nat) :
    ∀ w ∈ (tankVolume n s r).work, ∀ p ∈ w.parcel, TankHolds (reach visited s) r.key w p := by
  intro w hw p hp
  obtain ⟨v, hv, hsame⟩ := tankVolume_work hw
  have hpv : p ∈ v.parcel := by rwa [hsame] at hp
  obtain ⟨hopen, -⟩ := h v hv p hpv
  have hparcel : ParcelSound s.parcels[p] := hparcels _ (get_mem_toList _ p)
  obtain ⟨entry, hentry⟩ := snapshot_tank?_isSome hmem
  rw [hk] at hentry
  refine ⟨fun ho => ?_, fun hd m hm _ hvalid => ?_⟩
  · obtain ⟨hreading, hcurrent, hopening, hentries⟩ := hopen ho
    refine ⟨by rw [hsame]; exact hreading, ?_, ?_, hentries⟩
    · rcases opened_cases (show s.parcels[p].state.opened = true from ho) with hclosed | hcomputes
      · rw [tankVolume_closed hv hpv hclosed] at hw
        cases hv.symm.trans hw
        exact hcurrent
      · have hread := hentries (by rw [stage]; rfl) n held entry hentry
        exact tankVolume_computed hv hpv hparcel hcomputes hentry hread hw
    · rw [hsame]
      exact hopening
  · cases held.symm.trans hm
    obtain ⟨entry', hentry', hgauge⟩ := (snapInvalid_eq_false_iff _).1 hvalid
    have hread := (hgauges n held entry' (snapshot_tank?_mem hentry').1).1 hgauge
    have hcomputes : s.parcels[p].state.computesTanks = true := by
      rw [show s.parcels[p].state = .declared from hd]
      rfl
    exact tankVolume_computed hv hpv hparcel hcomputes hentry' hread hw

/-- One more entry of the snapshot dealt with by stage 4. -/
theorem volumesComputed_succ {n : Snapshot} {e : TankSnap} (stage : s.ee.pass = .running .tankVolumes)
    (he : n.tanks[s.ee.visited]? = some e) :
    volumesComputed (reach (s.ee.visited + 1) s) n = volumesComputed s n ++ [e] := by
  unfold volumesComputed
  rw [show (reach (s.ee.visited + 1) s).ee.pass = .running .tankVolumes from stage, stage]
  show n.tanks.take (s.ee.visited + 1) = _
  rw [List.take_add_one, he]
  rfl

/-- Outside stage 4 the count of records dealt with tells nothing of the volumes. -/
theorem volumesComputed_reach (visited : Nat) (n : Snapshot) (h : s.ee.pass ≠ .running .tankVolumes) :
    volumesComputed (reach visited s) n = volumesComputed s n := by
  unfold volumesComputed
  rw [show (reach visited s).ee.pass = s.ee.pass from rfl]
  split
  · next hp => exact absurd hp h
  all_goals rfl

/-- A tank that stage 4 does not deal with in an act holds what it held. -/
theorem reach_holds {n : Snapshot} {e : TankSnap} {k : Key} {w : TankWork} {p : ParcelNo}
    (stage : s.ee.pass = .running .tankVolumes) (held : s.ee.snapshot = some n)
    (he : n.tanks[s.ee.visited]? = some e) (hk : e.key ≠ k) (h : TankHolds s k w p) :
    TankHolds (reach (s.ee.visited + 1) s) k w p := by
  refine tankHolds_transfer h id id id id id rfl id ?_
  rintro m hm ⟨x, hx, hkey⟩
  cases held.symm.trans hm
  rw [volumesComputed_succ stage he, List.mem_append, List.mem_singleton] at hx
  rcases hx with hx | rfl
  · exact ⟨x, hx, hkey⟩
  · exact absurd hkey hk

/-- Stage 4 for one tank keeps what the tanks hold. -/
theorem tanksHold_computeVolume {n : Snapshot} {e : TankSnap} (stage : s.ee.pass = .running .tankVolumes)
    (held : s.ee.snapshot = some n) (he : n.tanks[s.ee.visited]? = some e) (htables : TablesSound s)
    (hparcels : ParcelsSound s) (hgauges : SnapshotGauges s) (h : TanksHold s) :
    TanksHold (reach (s.ee.visited + 1) (computeVolume n s e)) := by
  have hrising := htables.1.1
  unfold computeVolume
  cases found : s.tank? e.key with
  | none =>
    intro r hr w hw p hp
    refine reach_holds stage held he (fun hk => ?_) (h r hr w hw p hp)
    have hfound := findRec_of_mem hrising hr
    rw [show tankOrd r = keyCode e.key from congrArg keyCode hk.symm] at hfound
    cases found.symm.trans hfound
  | some x =>
    have hord : tankOrd x = keyCode e.key := findRec_ord found
    have hkx : e.key = x.key := (keyCode_injective hord).symm
    obtain ⟨hkey, -, -⟩ := tankVolume_leaves n s x
    intro r hr w hw p hp
    change r ∈ putRec tankOrd (tankVolume n s x) s.tanks at hr
    show TankHolds (reach (s.ee.visited + 1) s) r.key w p
    by_cases hk : e.key = r.key
    · have hput : r = tankVolume n s x := by
        have hmem := findRec_of_mem (keysRising_putRec (tankVolume n s x) hrising) hr
        rw [show tankOrd r = tankOrd (tankVolume n s x) from congrArg keyCode (hk.symm.trans (hkx.trans hkey.symm)),
          findRec_putRec_self] at hmem
        exact (Option.some.inj hmem).symm
      rw [← hk, hkx]
      rw [hput] at hw
      exact tankVolume_holds (List.mem_of_getElem? he) hkx stage held hparcels hgauges (h x (findRec_mem found)) _ w hw
        p hp
    · rcases mem_putRec hr with rfl | hmem
      · exact absurd (hkx.trans hkey.symm) hk
      · exact reach_holds stage held he hk (h r hmem w hw p hp)

/-! ### The other acts of the engine -/

/-- A stage that ends leaves what the tanks hold to the next. -/
theorem tanksHold_advance {g g' : Stage} (stage : s.ee.pass = .running g) (next : Follows g g')
    (hover : g = .tankVolumes → ∀ n ∈ s.ee.snapshot, n.tanks.length ≤ s.ee.visited) (h : TanksHold s) :
    TanksHold (toStage g' s) := by
  intro r hr w hw p hp
  refine tankHolds_transfer (h r hr w hw p hp) id id id id id rfl (fun hb => ?_) ?_
  · rw [stage]
    change beforeVolumes (.running g') = true at hb
    cases next <;> first | rfl | cases hb
  · rintro n hn ⟨e, he, hk⟩
    refine ⟨e, ?_, hk⟩
    unfold volumesComputed at he ⊢
    rw [stage]
    change e ∈ (match PassState.running g' with
      | .running .tankVolumes => n.tanks.take 0
      | .running .meterFlow => n.tanks
      | .running .marks => n.tanks
      | _ => []) at he
    cases next with
    | tankVolumes =>
      rw [List.take_of_length_le (hover rfl n hn)]
      exact he
    | meterFlow => exact he
    | _ => simp at he

/-- The snapshot holds the reading of every tank of an opened parcel, and no tank is dealt with yet. -/
theorem tanksHold_fill (htables : TablesSound s) (h : TanksHold s) :
    TanksHold (fillSnapshot s) := by
  intro r hr w hw p hp
  refine ⟨fun ho => ?_, fun _ n _ hc => ?_⟩
  · obtain ⟨hreading, hcurrent, hopening, -⟩ := (h r hr w hw p hp).1 ho
    refine ⟨hreading, hcurrent, hopening, fun _ n hn e he => ?_⟩
    cases hn
    obtain ⟨hmem, hk⟩ := snapshot_tank?_mem he
    obtain ⟨x, hx, v, hv, rfl⟩ := mem_takeSnapshot_tanks.1 hmem
    obtain rfl := tank_unique htables.1.1 hr hx hk
    cases hw.symm.trans hv
    exact hreading
  · obtain ⟨e, he, -⟩ := hc
    cases he

/-- An engine that goes IDLE or begins a pass calls for nothing of the snapshot. -/
theorem tanksHold_out_of_stages {r : TankRec} {w : TankWork} {p : ParcelNo} (h : TankHolds s r.key w p)
    (hopened : t.parcels[p].state.opened = true → s.parcels[p].state.opened = true)
    (hbefore : beforeVolumes t.ee.pass = false) (hnone : t.ee.snapshot = none) : TankHolds t r.key w p := by
  refine ⟨fun ho => ?_, fun _ n hn => (by rw [hnone] at hn; cases hn)⟩
  obtain ⟨hreading, hcurrent, hopening, -⟩ := h.1 (hopened ho)
  exact ⟨hreading, hcurrent, hopening, fun hb => absurd (hb.symm.trans hbefore) (by simp)⟩

/-! ### OPEN and RELEASE -/

/-- No tank of a parcel that may be opened has GAUGE-INVALID set in the snapshot (R98, check 7). -/
theorem openRefusal_valid {n : Snapshot} {p : ParcelNo} (h : openRefusal n s p = none) :
    ∀ r ∈ s.tanks, ∀ w, r.work = some w → w.parcel = some p → snapInvalid n r.key = false := by
  intro r hr w hw hp
  unfold openRefusal at h
  dsimp only at h
  iterate 6 (split at h; cases h)
  split at h
  · cases h
  · next hvalid =>
    rw [Bool.not_eq_true, List.any_eq_false] at hvalid
    have hmem : (r.key, w) ∈ assignedTanks s p := by
      refine List.mem_filterMap.2 ⟨r, hr, ?_⟩
      rw [hw]
      exact if_pos hp
    simpa using hvalid _ hmem

/-- A parcel that opens takes each tank's current volume as its opening volume (R55, R99). -/
theorem tanksHold_openNow {n : Snapshot} {p : ParcelNo} (stage : s.ee.pass = .running .marks)
    (held : s.ee.snapshot = some n) (hopen : openRefusal n s p = none) (hgauges : SnapshotGauges s)
    (h : TanksHold s) : TanksHold (openNow p s) := by
  intro r' hr' w' hw' q hq
  obtain ⟨r, hr, rfl⟩ := List.mem_map.1 hr'
  obtain ⟨w, hw, rfl⟩ := Option.map_eq_some_iff.1 hw'
  have parcel_of (q : ParcelNo) : (openNow p s).parcels[q] = if q = p then s.parcels[p].openedNow else s.parcels[q] :=
    setPlace_get _ _ _ _
  by_cases hpq : w.parcel = some p
  · rw [if_pos hpq] at hq ⊢
    have hqp : q = p := Option.some.inj ((show w.parcel = some q from hq).symm.trans hpq)
    subst hqp
    have hvalid := openRefusal_valid hopen r hr w hw hpq
    obtain ⟨e, he, hgauge⟩ := (snapInvalid_eq_false_iff _).1 hvalid
    obtain ⟨hmem, hk⟩ := snapshot_tank?_mem he
    obtain ⟨hread, hreading⟩ := hgauges n held e hmem
    have hcurrent : w.current.isSome = true := by
      refine (h r hr w hw q hpq).2 (openRefusal_state hopen) n held ⟨e, ?_, hk⟩ hvalid
      rw [volumesComputed, stage]
      exact hmem
    refine ⟨fun _ => ⟨hreading (hread hgauge) r hr hk.symm w hw, hcurrent, hcurrent, fun hb => ?_⟩, fun hd => ?_⟩
    · exact absurd hb (by rw [show (openNow q s).ee.pass = _ from stage]; decide)
    · rw [parcel_of, if_pos rfl] at hd
      cases hd
  · rw [if_neg hpq] at hq ⊢
    have hqp : q ≠ p := fun e => hpq (e ▸ hq)
    have same : (openNow p s).parcels[q] = s.parcels[q] := by rw [parcel_of, if_neg hqp]
    exact tankHolds_transfer (h r hr w hw q hq) id id id (by rw [same]; exact id) (by rw [same]; exact id) rfl id
      fun _ _ => id

/-- The tanks of a released parcel are assigned to none. -/
theorem tanksHold_release (p : ParcelNo) (h : TanksHold s) :
    TanksHold (mapAssigned p TankWork.released (s.putParcel p s.parcels[p].releasedNow)) := by
  intro r' hr' w' hw' q hq
  obtain ⟨r, hr, rfl⟩ := List.mem_map.1 hr'
  obtain ⟨w, hw, rfl⟩ := Option.map_eq_some_iff.1 hw'
  by_cases hpq : w.parcel = some p
  · rw [if_pos hpq] at hq
    cases hq
  · rw [if_neg hpq] at hq ⊢
    have hqp : q ≠ p := fun e => hpq (e ▸ hq)
    have same : (s.putParcel p s.parcels[p].releasedNow).parcels[q] = s.parcels[q] := setPlace_get_ne _ _ hqp
    exact tankHolds_transfer (h r hr w hw q hq) id id id (by rw [mapAssigned, same]; exact id)
      (by rw [mapAssigned, same]; exact id) rfl id fun _ _ => id

/-! ### Every act -/

theorem tanksHold_recordAct (hact : RecordAct s t) (hengine : EngineSound s) (htables : TablesSound s)
    (hparcels : ParcelsSound s) (hgauges : SnapshotGauges s) (h : TanksHold s) : TanksHold t := by
  cases hact with
  | tank found hc => exact tanksHold_putTank h (tankChange_holds hc (h _ (findRec_mem found)))
  | newTank c _ _ => exact tanksHold_putTank h fun _ hw => nomatch hw
  | dropTank k => exact fun r hr => h r (mem_dropRec hr).1
  | removeTank found => exact tanksHold_putTank h fun _ hw => nomatch hw
  | acceptTank stage found copy hprotected =>
    refine tanksHold_putTank h ?_
    rintro w ⟨⟩
    exact tankAccepted_holds (no_snapshot_at_handOver hengine stage) hprotected (h _ (findRec_mem found))
  | parcels v hv =>
    exact tanksHold_of_states (s := s) (t := { s with parcels := v }) rfl rfl (fun p => (hv p).opened)
      (fun p => (hv p).declared) h
  | @declare p c stage copy hok =>
    intro r hr w hw q hq
    have hnone := no_snapshot_at_handOver hengine stage
    refine tanksHold_out_of_stages (h r hr w hw q hq) (fun ho => ?_) ?_ hnone
    · change ((setPlace s.parcels p _)[q]).state.opened = true at ho
      rw [setPlace_get] at ho
      split at ho
      · next hqp =>
        rw [hqp]
        change (if s.parcels[p].state = .vacant then ParcelState.declared else s.parcels[p].state).opened = true at ho
        split at ho
        · cases ho
        · exact ho
      · exact ho
    · show beforeVolumes s.ee.pass = false
      rw [stage]
      rfl
  | openNow stage held hopen => exact tanksHold_openNow stage held hopen hgauges h
  | release p => exact tanksHold_release p h
  | begins hidle =>
    intro r' hr' w hw p hp
    obtain ⟨r, hr, rfl⟩ := List.mem_map.1 hr'
    have hnone : s.ee.snapshot = none := by
      have held := hengine.1
      rw [hidle] at held
      exact Option.not_isSome_iff_eq_none.1 (by rw [held]; decide)
    have same : (beginPass s).parcels[p].state = s.parcels[p].state := by
      unfold beginPass
      rw [mapPlaces_get]
    exact tanksHold_out_of_stages (h r hr w hw p hp) (by rw [same]; exact id) rfl hnone
  | advance stage next hover => exact tanksHold_advance stage next hover h
  | fill _ => exact tanksHold_fill htables h
  | @reach n counts volumes hle =>
    intro r hr w hw p hp
    refine tankHolds_transfer (h r hr w hw p hp) id id id id id rfl id ?_
    rintro m hm ⟨e, he, hk⟩
    exact ⟨e, volumesComputed_reach n m volumes ▸ he, hk⟩
  | volume stage held hx => exact tanksHold_computeVolume stage held hx htables hparcels hgauges h
  | complete stage =>
    intro r hr w hw p hp
    have same : (endPass s).parcels[p].state = s.parcels[p].state := by
      unfold endPass publishAll
      rw [mapPlaces_get]
    exact tanksHold_out_of_stages (h r hr w hw p hp) (by rw [same]; exact id) rfl rfl
  | _ => exact h

theorem volumesSound_recordAct (hact : RecordAct s t) (h : VolumesSound s) : VolumesSound t := by
  obtain ⟨htables, hnamed, hwork, hengine, hparcels, hgauges, hsnapshot, htanks⟩ := h
  exact ⟨tablesSound_recordAct hact htables hnamed, valvesNamed_recordAct hact hnamed,
    workWithCurrent_recordAct hact hwork, engineSound_recordAct hact hengine, parcelsSound_recordAct hact hparcels,
    gaugesSound_recordAct hact hgauges, snapshotGauges_recordAct hact hengine htables hgauges hsnapshot,
    tanksHold_recordAct hact hengine htables hparcels hsnapshot htanks⟩

end Sys2Proof.Laws
end

section
/-! PROOFS. Every step keeps the law of opening volumes. -/

namespace Sys2Proof.Proofs

open Machine Safety Laws

theorem atResetEnd_volumes (address : Fin 27) (role : Role) (rate : BusRate) (esd : EsdLevel) (n : Nat)
    (l : List Instr) : VolumesSound (State.atResetEnd address role rate esd n l) :=
  ⟨atResetEnd_tables _ _ _ _ _ _, atResetEnd_valvesNamed _ _ _ _ _ _, atResetEnd_work _ _ _ _ _ _,
    atResetEnd_engine _ _ _ _ _ _, atResetEnd_parcels _ _ _ _ _ _, atResetEnd_gauges _ _ _ _ _ _,
    fun _ h => (nomatch h), fun _ h => (nomatch h)⟩

/-- Settles O59: every act keeps what each tank holds, and the tank of an opened parcel holds both volumes. -/
theorem stepsKeepOpeningVolumes : Obligations.StepsKeepOpeningVolumes := by
  refine ⟨fun s t hstep => ?_, fun s r w p h hr hw hp hstate => ?_⟩
  · exact step_keeps_of_acts (P := fun s => VolumesSound s)
      (act_keeps_of_records (fun _ _ => volumesSound_recordAct) (fun _ _ h => h) atResetEnd_volumes)
      (fun _ _ h => h) hstep
  · obtain ⟨-, -, -, -, -, -, -, htanks⟩ := h
    have hopened : s.parcels[p].state.opened = true := by rcases hstate with e | e | e <;> rw [e] <;> rfl
    obtain ⟨-, hcurrent, hopening, -⟩ := (htanks r hr w hw p hp).1 hopened
    obtain ⟨c, hc⟩ := Option.isSome_iff_exists.1 hcurrent
    obtain ⟨o, ho⟩ := Option.isSome_iff_exists.1 hopening
    exact ⟨o, c, ho, hc⟩

end Sys2Proof.Proofs
end

section
/-! SUPPORT. The node right after either reset: every part at its reset value, and at address 0 an owed ESD alert queued
and loaded (R197, R200). -/

namespace Sys2Proof.Laws

open Machine Safety

section ResetEnd

variable (address : Fin 27) (role : Role) (rate : BusRate) (esd : EsdLevel) (n : Nat) (l : List Instr)

/-- The alert owed at reset end (R200). -/
def owedAlert : AlertRec := ⟨.esd, .nothing, 1, 0⟩

/-- The node at reset end with the owed alert queued and loaded; its bus is not idle yet, so nothing is offered. -/
def alertedReset : State :=
  { State.atResetEnd address role rate esd n l with
    sr := { (State.atResetEnd address role rate esd n l).sr with esdOwed := false }
    slots := setPlace (Vector.replicate 4 .empty) 0 (.pending (alertFrame owedAlert))
    aq := ⟨[owedAlert], false⟩ }

theorem offer_of_not_mayOffer {s : State} (h : mayOffer s = false) : offer s = s := by
  unfold offer
  rw [h]
  rfl

theorem queueOwed_atResetEnd (h : (State.atResetEnd address role rate esd n l).sr.esdOwed = true) :
    queueOwed (State.atResetEnd address role rate esd n l) = alertedReset address role rate esd n l := by
  rw [queueOwed, if_pos h, esdAlert]
  exact (queueAlert_empty rfl rfl (by rfl)).trans (offer_of_not_mayOffer rfl)

/-- An alert is owed at the end of a reset with ESD asserted, and queued there at address 0 (R200). -/
theorem resetNode_alerted (s : State) (h : esd = .asserted ∧ address.val = 0) :
    resetNode address role rate esd s = alertedReset address role rate esd s.freeIndex s.pending := by
  obtain ⟨rfl, h0⟩ := h
  have ended : (State.atResetEnd address role rate .asserted s.freeIndex s.pending).sr.stagger = .ended := if_pos h0
  unfold resetNode
  dsimp only
  rw [if_pos ended]
  exact queueOwed_atResetEnd _ _ _ _ _ _ rfl

/-- With ESD released, or with a stagger to run, the node stands at its reset values alone. -/
theorem resetNode_plain (s : State) (h : ¬(esd = .asserted ∧ address.val = 0)) :
    resetNode address role rate esd s = State.atResetEnd address role rate esd s.freeIndex s.pending := by
  unfold resetNode
  dsimp only
  split
  · next hended =>
    have h0 : address.val = 0 := by
      by_contra h0
      rw [show (State.atResetEnd address role rate esd s.freeIndex s.pending).sr.stagger = _ from if_neg h0] at hended
      cases hended
    rw [queueOwed, if_neg]
    rw [show (State.atResetEnd address role rate esd s.freeIndex s.pending).sr.esdOwed = decide (esd = .asserted)
      from rfl, decide_eq_true_eq]
    exact fun hesd => h ⟨hesd, h0⟩
  · rfl

/-- What both resets leave: the reset values, with an alert owed at address 0 queued. -/
theorem resetNode_cases (s : State) :
    resetNode address role rate esd s = State.atResetEnd address role rate esd s.freeIndex s.pending
      ∨ resetNode address role rate esd s = alertedReset address role rate esd s.freeIndex s.pending := by
  by_cases h : esd = .asserted ∧ address.val = 0
  · exact .inr (resetNode_alerted _ _ _ _ s h)
  · exact .inl (resetNode_plain _ _ _ _ s h)

/-- The timers at reset end: T3 runs exactly where no stagger does (R156). -/
theorem atResetEnd_timers : TimersSound (State.atResetEnd address role rate esd n l) := by
  have timers (run : RunState) : ∀ t ∈ (CadenceTimers.reset run).timers.toList, TimerSound t := by
    cases run <;> decide
  refine ⟨timers _, fun hs _ => ?_, (by decide : 1 ≤ State.reset.ct.staleLimit),
    (by decide : State.reset.ct.staleLimit ≤ 15)⟩
  show (CadenceTimers.reset (if address.val = 0 then .running else .halted)).timers[(3 : Fin 4)].run = _
  rw [if_neg]
  · rfl
  · intro h0
    exact hs (if_pos h0)

theorem atResetEnd_ages : AgesSound (State.atResetEnd address role rate esd n l) :=
  (by decide : AgesSound State.reset)

theorem atResetEnd_line : LineFollows (State.atResetEnd address role rate esd n l) :=
  (by decide : LineFollows State.reset)

theorem atResetEnd_bus : OneFrameOnBus (State.atResetEnd address role rate esd n l) :=
  ⟨rfl, fun h => absurd rfl h, rfl, fun h => nomatch h⟩

theorem alertedReset_bus : OneFrameOnBus (alertedReset address role rate esd n l) :=
  ⟨rfl, fun h => absurd rfl h, rfl, fun h => nomatch h⟩

theorem alertedReset_queue : AlertQueueSound (alertedReset address role rate esd n l) :=
  ⟨(by decide : [owedAlert].length ≤ 16), List.pairwise_singleton _ _, by simp [alertedReset, State.atResetEnd],
    fun h => nomatch h⟩

end ResetEnd

end Sys2Proof.Laws
end

section
/-! PROOFS. The reset state and the node after either reset meet every invariant. -/

namespace Sys2Proof.Proofs

open Machine Safety Laws

section Reset

variable (address : Fin 27) (role : Role) (rate : BusRate) (esd : EsdLevel) (n : Nat) (l : List Instr)

/-- Every invariant of the model. -/
def MeetsInvariants (s : State) : Prop :=
  LineFollows s ∧ OneFrameOnBus s ∧ AlertQueueSound s ∧ QueryQueueSound s
    ∧ RoundSound s ∧ TimersSound s ∧ AgesSound s ∧ TablesSound s ∧ ValvesNamed s ∧ RevisionsForward s
    ∧ WorkWithCurrent s ∧ EngineSound s ∧ ParcelsSound s ∧ MetersSound s ∧ GaugesSound s ∧ VolumesSound s

theorem atResetEnd_meetsInvariants : MeetsInvariants (State.atResetEnd address role rate esd n l) :=
  ⟨atResetEnd_line _ _ _ _ _ _, atResetEnd_bus _ _ _ _ _ _, by simp [AlertQueueSound, State.atResetEnd],
    by simp [QueryQueueSound, State.atResetEnd], by simp [RoundSound, State.atResetEnd],
    atResetEnd_timers _ _ _ _ _ _, atResetEnd_ages _ _ _ _ _ _, atResetEnd_tables _ _ _ _ _ _,
    atResetEnd_valvesNamed _ _ _ _ _ _, atResetEnd_revisions _ _ _ _ _ _, atResetEnd_work _ _ _ _ _ _,
    atResetEnd_engine _ _ _ _ _ _, atResetEnd_parcels _ _ _ _ _ _, atResetEnd_meters _ _ _ _ _ _,
    atResetEnd_gauges _ _ _ _ _ _, atResetEnd_volumes _ _ _ _ _ _⟩

/-- The owed alert touches the alert queue and slot 0 alone. -/
theorem alertedReset_meetsInvariants : MeetsInvariants (alertedReset address role rate esd n l) := by
  obtain ⟨hline, -, -, -, -, htimers, hages, hrest⟩ := atResetEnd_meetsInvariants address role rate esd n l
  exact ⟨hline, alertedReset_bus _ _ _ _ _ _, alertedReset_queue _ _ _ _ _ _,
    by simp [QueryQueueSound, alertedReset, State.atResetEnd], by simp [RoundSound, alertedReset, State.atResetEnd],
    htimers, hages, hrest⟩

theorem resetNode_meetsInvariants (s : State) : MeetsInvariants (resetNode address role rate esd s) := by
  rcases resetNode_cases address role rate esd s with e | e <;> rw [e]
  · exact atResetEnd_meetsInvariants _ _ _ _ _ _
  · exact alertedReset_meetsInvariants _ _ _ _ _ _

end Reset

/-- Settles O60: the reset values meet every invariant, with or without an alert owed. -/
theorem resetsMeetInvariants : Obligations.ResetsMeetInvariants := by
  refine ⟨atResetEnd_meetsInvariants _ _ _ _ _ _, fun s t straps esd h => ?_⟩
  rcases h with h | h
  · obtain rfl := Host.Outcome.next.inj h
    exact resetNode_meetsInvariants _ _ _ _ _
  · obtain rfl := Host.Outcome.next.inj h
    exact resetNode_meetsInvariants _ _ _ _ _

end Sys2Proof.Proofs
end

section
/-! SUPPORT. The straps as the chapter numbers them, and the bounds of the expansion coefficient (Chapters 1 and 12). -/

namespace Sys2Proof.Laws

open Machine Safety

/-- Three pins of three levels each count to 26 at most (R197). -/
theorem strapAddress_val (t : Straps) :
    (strapAddress t).val = strapValue t.addr0 + 3 * strapValue t.addr1 + 9 * strapValue t.addr2 := by
  have pin (x : StrapLevel) : strapValue x ≤ 2 := by cases x <;> decide
  have h0 := pin t.addr0
  have h1 := pin t.addr1
  have h2 := pin t.addr2
  exact Nat.mod_eq_of_lt (by omega)

theorem owedAlert_frame : alertFrame owedAlert = ⟨.alert, [12, 0, 0, 0, 0, 0, 1, 0, 0, 0, 0]⟩ := by decide

section ResetValues

variable (address : Fin 27) (role : Role) (rate : BusRate) (esd : EsdLevel) (n : Nat) (l : List Instr)

theorem atResetEnd_stagger : (State.atResetEnd address role rate esd n l).sr.stagger
    = if address.val = 0 then .ended else .running (250 * address.val) := by
  rw [Nat.mul_comm]
  rfl

theorem atResetEnd_term (q : TermPos) :
    (State.atResetEnd address role rate esd n l).terms[q] = ⟨⟨none, none, none⟩, none⟩ := by
  simp [State.atResetEnd, Decls.absent]

theorem atResetEnd_parcel (p : ParcelNo) :
    (State.atResetEnd address role rate esd n l).parcels[p] = ParcelRec.reset := by
  simp [State.atResetEnd]

theorem atResetEnd_evaluated (p : ParcelNo) : (State.atResetEnd address role rate esd n l).ee.evaluated[p] = none := by
  simp [State.atResetEnd, Engine.reset]

theorem atResetEnd_fresh (a : Station) : (State.atResetEnd address role rate esd n l).fresh[a] = ⟨15, none⟩ := by
  simp [State.atResetEnd]

end ResetValues

/-- A coefficient falls, or stays, as the density rises. -/
theorem expansion_antitone (cls : Fin 4) {d e : Nat} (hd : 0 < d) (h : d ≤ e) : expansion cls e ≤ expansion cls d :=
  Nat.add_le_add (Nat.div_le_div_left (Nat.mul_le_mul h h) (Nat.mul_pos hd hd)) (Nat.div_le_div_left h hd)

theorem parcelInRange_density {d : ParcelDecl} (h : parcelInRange d = true) : 6100 ≤ d.density ∧ d.density ≤ 11000 := by
  simp only [parcelInRange, Bool.and_eq_true, decide_eq_true_eq] at h
  obtain ⟨⟨⟨⟨⟨⟨hlo, hhi⟩, -⟩, -⟩, -⟩, -⟩, -⟩ := h
  exact ⟨hlo, hhi⟩

end Sys2Proof.Laws
end

section
/-! PROOFS. The step, the expansion coefficient, and the parts of a reset. -/

namespace Sys2Proof.Proofs

open Machine Safety Laws

/-- Settles O1: the step is defined by its queue's front. -/
theorem stepRunsFrontCommand : Obligations.StepRunsFrontCommand := fun _ _ _ => ⟨rfl, rfl⟩

/-- Settles O3: the coefficient is antitone in the density, so its two ends bound it. -/
theorem expansionCoefficient : Obligations.ExpansionCoefficient := by
  refine ⟨fun d => ⟨rfl, rfl, rfl, rfl⟩, fun cls d hlo hhi => ⟨?_, ?_, fun e hde _ => ?_⟩, fun r d hd => ?_,
    fun _ _ => rfl⟩
  · have least : 539668 ≤ expansion cls 11000 := by decide +revert
    exact least.trans (expansion_antitone cls (by omega) hhi)
  · have greatest : expansion cls 6100 ≤ 1689061 := by decide +revert
    exact (expansion_antitone cls (by omega) hlo).trans greatest
  · exact expansion_antitone cls (by omega) hde
  · have out : ¬parcelInRange d = true := fun h => by
      obtain ⟨hlo, hhi⟩ := parcelInRange_density h
      omega
    exact if_neg out

/-- Settles O47: the reset values part by part, with or without an alert owed. -/
theorem resetsSetEveryPart : Obligations.ResetsSetEveryPart := by
  intro straps esd s level
  have haddress : (strapAddress straps).val
      = level straps.addr0 + 3 * level straps.addr1 + 9 * level straps.addr2 := strapAddress_val straps
  refine ⟨resetNode (strapAddress straps) (strapRole straps) (strapRate straps) esd s, rfl, ?_⟩
  generalize hz : strapAddress straps = address at haddress
  have at_stagger := atResetEnd_stagger address (strapRole straps) (strapRate straps) esd s.freeIndex s.pending
  have at_term := atResetEnd_term address (strapRole straps) (strapRate straps) esd s.freeIndex s.pending
  have at_parcel := atResetEnd_parcel address (strapRole straps) (strapRate straps) esd s.freeIndex s.pending
  have at_evaluated := atResetEnd_evaluated address (strapRole straps) (strapRate straps) esd s.freeIndex s.pending
  have at_fresh := atResetEnd_fresh address (strapRole straps) (strapRate straps) esd s.freeIndex s.pending
  by_cases h : esd = .asserted ∧ address.val = 0
  · rw [resetNode_alerted _ _ _ _ s h]
    refine ⟨fun u ha hr hb => ?_, haddress, rfl, rfl, rfl, at_stagger, rfl, rfl, rfl, ?_, rfl,
      rfl, rfl, rfl, rfl, rfl, at_term, at_parcel, rfl, rfl, rfl,
      rfl, rfl, at_evaluated, rfl, rfl, rfl, rfl, rfl, rfl, rfl, at_fresh,
      rfl, rfl, rfl, rfl, rfl, rfl, rfl, rfl, rfl, fun hn => absurd h hn,
      fun _ _ => ⟨rfl, congrArg Slot.pending owedAlert_frame⟩⟩
    · show Host.Outcome.next (resetNode u.sr.address u.sr.role u.sr.rate esd u) = _
      rw [ha, hr, hb]
      exact congrArg _ (resetNode_alerted _ _ _ _ u h)
    · exact ⟨fun hn => (nomatch hn), fun hn => absurd h.2 hn.2⟩
  · rw [resetNode_plain _ _ _ _ s h]
    refine ⟨fun u ha hr hb => ?_, haddress, rfl, rfl, rfl, at_stagger, rfl, rfl, rfl, ?_, rfl,
      rfl, rfl, rfl, rfl, rfl, at_term, at_parcel, rfl, rfl, rfl,
      rfl, rfl, at_evaluated, rfl, rfl, rfl, rfl, rfl, rfl, rfl, at_fresh,
      rfl, rfl, rfl, rfl, rfl, rfl, rfl, rfl, rfl, fun _ => ⟨rfl, rfl⟩, fun he h0 => absurd ⟨he, h0⟩ h⟩
    · show Host.Outcome.next (resetNode u.sr.address u.sr.role u.sr.rate esd u) = _
      rw [ha, hr, hb]
      exact congrArg _ (resetNode_plain _ _ _ _ u h)
    · show decide (esd = .asserted) = true ↔ _
      rw [decide_eq_true_eq]
      exact ⟨fun he => ⟨he, fun h0 => h ⟨he, h0⟩⟩, fun hn => hn.1⟩

end Sys2Proof.Proofs
end

section
/-! SUPPORT. A stage that deals with its records one command each (R109): one record by one command, and all of them by as
many commands as there are records. -/

namespace Sys2Proof.Laws

open Machine Safety

variable {s t : State}

/-! ### What falls due is left alone -/

/-- What decides whether an act is due is left as it is: who is told, the timers, the stagger and the ESD input. -/
structure LeavesDue (s t : State) : Prop where
  told : t.told = s.told
  ct : t.ct = s.ct
  sr : t.sr = s.sr

theorem LeavesDue.refl : LeavesDue s s := ⟨rfl, rfl, rfl⟩

theorem LeavesDue.calm (h : LeavesDue s t) (hc : Calm s) : Calm t := by
  obtain ⟨htold, hct, hsr⟩ := h
  rwa [Calm, htold, hct, hsr]

theorem leavesDue_planReject {t : State} (h : LeavesDue s t) (subject : Subject) (rev : Byte) (why : RejectReason) :
    LeavesDue s (planReject subject rev why t) := ⟨by simp [h.told], by simp [h.ct], by simp [h.sr]⟩

theorem leavesDue_queueAlert {t : State} (h : LeavesDue s t) (cause : Cause) (subject : Subject) (value : Int) :
    LeavesDue s (queueAlert cause subject value t) := ⟨by simp [h.told], by simp [h.ct], by simp [h.sr]⟩

theorem decideMeter_leavesDue (r : MeterRec) : LeavesDue s (decideMeter s r) := by
  unfold decideMeter
  split
  · exact .refl
  · split
    · refine leavesDue_planReject ?_ _ _ _
      split <;> exact ⟨rfl, rfl, rfl⟩
    · split
      · unfold removeMeter
        split <;> exact ⟨rfl, rfl, rfl⟩
      · exact ⟨rfl, rfl, rfl⟩

theorem decideTank_leavesDue (r : TankRec) : LeavesDue s (decideTank s r) := by
  have refused (c : Copy TankDecl) (why : RejectReason) : LeavesDue s (refuseTank r c why s) := by
    refine leavesDue_planReject ?_ _ _ _
    split <;> exact ⟨rfl, rfl, rfl⟩
  unfold decideTank
  split
  · exact .refl
  · split
    · split
      · exact refused _ _
      · unfold removeTank
        split <;> exact ⟨rfl, rfl, rfl⟩
    · split
      · split
        · exact refused _ _
        · exact ⟨rfl, rfl, rfl⟩
      · exact refused _ _

theorem decideParcel_leavesDue (p : ParcelNo) : LeavesDue s (decideParcel s p) := by
  unfold decideParcel
  split
  · exact .refl
  · split
    · exact leavesDue_planReject (by exact ⟨rfl, rfl, rfl⟩) _ _ _
    · exact ⟨rfl, rfl, rfl⟩

theorem decideTerm_leavesDue (q : TermPos) : LeavesDue s (decideTerm s q) := by
  have refused (c : Copy TermDecl) (why : RejectReason) : LeavesDue s (refuseTerm q c why s) :=
    leavesDue_planReject (by exact ⟨rfl, rfl, rfl⟩) _ _ _
  unfold decideTerm
  split
  · exact .refl
  · split
    · exact ⟨rfl, rfl, rfl⟩
    · split
      · exact refused _ _
      · split
        · split
          · exact ⟨rfl, rfl, rfl⟩
          · exact refused _ _
        · exact refused _ _

theorem decideOffer_leavesDue (o : Offer) : LeavesDue s (decideOffer s o) := by
  cases o with
  | meter k =>
    show LeavesDue s ((s.meter? k).elim s (decideMeter s))
    cases s.meter? k with
    | none => exact .refl
    | some r => exact decideMeter_leavesDue r
  | tank k =>
    show LeavesDue s ((s.tank? k).elim s (decideTank s))
    cases s.tank? k with
    | none => exact .refl
    | some r => exact decideTank_leavesDue r
  | parcel p => exact decideParcel_leavesDue p
  | term q => exact decideTerm_leavesDue q

theorem recomputeHold_leavesDue (n : Snapshot) (p : ParcelNo) : LeavesDue s (recomputeHold n s p) := by
  unfold recomputeHold
  split <;> exact ⟨rfl, rfl, rfl⟩

theorem computeVolume_leavesDue (n : Snapshot) (e : TankSnap) : LeavesDue s (computeVolume n s e) := by
  unfold computeVolume
  cases s.tank? e.key <;> exact ⟨rfl, rfl, rfl⟩

theorem creditUnrouted_leavesDue (r : MeterRec) (w : MeterWork) (cumulative : BitVec 24) (delta : Nat) :
    LeavesDue s (creditUnrouted r w cumulative delta s) :=
  ⟨by simp [creditUnrouted], by simp [creditUnrouted], by simp [creditUnrouted]⟩

theorem consumeMeter_leavesDue (n : Snapshot) (e : MeterSnap) : LeavesDue s (consumeMeter n s e) := by
  unfold consumeMeter
  split
  · exact .refl
  · split
    · exact .refl
    · unfold consume
      split
      · exact ⟨rfl, rfl, rfl⟩
      · exact ⟨rfl, rfl, rfl⟩
      · dsimp only
        split
        · exact ⟨rfl, rfl, rfl⟩
        · split
          · exact leavesDue_queueAlert (by exact ⟨rfl, rfl, rfl⟩) _ _ _
          · split
            · exact ⟨rfl, rfl, rfl⟩
            · unfold attributeFlow
              split
              · exact creditUnrouted_leavesDue _ _ _ _
              · split
                · exact ⟨rfl, rfl, rfl⟩
                · exact creditUnrouted_leavesDue _ _ _ _
              · exact leavesDue_queueAlert (by exact ⟨rfl, rfl, rfl⟩) _ _ _

theorem applyMark_leavesDue (n : Snapshot) (p : ParcelNo) : LeavesDue s (applyMark n s p) := by
  unfold applyMark
  split
  · exact .refl
  · dsimp only
    split
    · unfold applyKind
      split
      · unfold applyOpen
        split
        · exact leavesDue_queueAlert (by exact ⟨rfl, rfl, rfl⟩) _ _ _
        · exact ⟨rfl, rfl, rfl⟩
      · unfold applyClose
        split
        · exact ⟨rfl, rfl, rfl⟩
        · exact leavesDue_queueAlert (by exact ⟨rfl, rfl, rfl⟩) _ _ _
        · exact leavesDue_planReject (by exact ⟨rfl, rfl, rfl⟩) _ _ _
      · unfold applyRelease
        split
        · exact ⟨rfl, rfl, rfl⟩
        · exact ⟨rfl, rfl, rfl⟩
        · exact ⟨rfl, rfl, rfl⟩
        · exact leavesDue_planReject (by exact ⟨rfl, rfl, rfl⟩) _ _ _
    · unfold refuseRevision
      split
      · exact leavesDue_queueAlert (by exact ⟨rfl, rfl, rfl⟩) _ _ _
      · exact leavesDue_planReject (by exact ⟨rfl, rfl, rfl⟩) _ _ _

theorem carryOut_leavesDue {t : State} (h : LeavesDue s t) (p : ParcelNo) (d : Int) : LeavesDue s (carryOut p d t) := by
  unfold carryOut
  split
  · exact h
  · exact ⟨h.told, h.ct, h.sr⟩
  · exact leavesDue_queueAlert h _ _ _
  · exact leavesDue_queueAlert h _ _ _

theorem toleranceStep_leavesDue {t : State} (h : LeavesDue s t) (p : ParcelNo) (excursive : Bool) (d : Int) :
    LeavesDue s (toleranceStep p excursive d t) := by
  have counted (x : ParcelRec) : LeavesDue s (t.putParcel p x) := ⟨h.told, h.ct, h.sr⟩
  unfold toleranceStep
  dsimp only
  split
  · exact carryOut_leavesDue (leavesDue_queueAlert (by exact ⟨h.told, h.ct, h.sr⟩) _ _ _) _ _
  · exact counted _

theorem closeParcel_leavesDue {t : State} (h : LeavesDue s t) (p : ParcelNo) (d : Int) (whileHeld : Bool) :
    LeavesDue s (closeParcel p d whileHeld t) := leavesDue_queueAlert (by exact ⟨h.told, h.ct, h.sr⟩) _ _ _

theorem evaluateParcel_leavesDue (p : ParcelNo) : LeavesDue s (evaluateParcel s p) := by
  unfold evaluateParcel
  split
  · unfold evaluateActive
    dsimp only
    split
    · exact closeParcel_leavesDue (toleranceStep_leavesDue (by exact ⟨rfl, rfl, rfl⟩) _ _ _) _ _ _
    · exact toleranceStep_leavesDue (by exact ⟨rfl, rfl, rfl⟩) _ _ _
  · split
    · exact closeParcel_leavesDue .refl _ _ _
    · exact .refl
  · exact .refl

theorem atPlace_leavesDue (g : PassState) (n : Nat) (h : LeavesDue s t) : LeavesDue s (atPlace g n t) :=
  ⟨h.told, h.ct, h.sr⟩

/-! ### One record by one command -/

section OneRecord

variable {α : Type} {c : Instr} {next : Stage} {left : State → List α} {act : State → α → State}

theorem dealNext_none (h : left s = []) : dealNext next left act s = stageOn next false 0 s := by
  rw [dealNext, h]
  rfl

theorem dealNext_cons {x : α} {rest : List α} (h : left s = x :: rest) (hrest : left (act s x) = rest) :
    dealNext next left act s = if rest = [] then toStage next (act s x) else act s x := by
  rw [dealNext, h]
  simp only [hrest, List.isEmpty_iff]

/-- A record dealt with by a stage that counts: the place that the stage reaches, or the next stage. -/
theorem dealNext_place {x : α} {rest : List α} {f : State → α → State} {n : Nat} (h : left s = x :: rest)
    (hact : act s x = reach n (f s x)) (hrest : left (act s x) = rest) :
    dealNext next left act s = stageOn next (decide (rest ≠ [])) n (f s x) := by
  rw [dealNext_cons h hrest, hact]
  by_cases hnil : rest = []
  · rw [if_pos hnil, decide_eq_false (not_not.2 hnil)]
    rfl
  · rw [if_neg hnil, decide_eq_true hnil]
    rfl

end OneRecord

/-! ### Every record, one command each -/

section EveryRecord

variable {α : Type} {c : Instr} {next : Stage} {left : State → List α} {act : State → α → State}
  {stands : State → Prop}

/-- A stage deals with the records it has left in their order and then goes on, where each is dealt with by one command
that leaves the rest. -/
theorem again_dealNext (hexec : ∀ s, stands s → exec c s = .next (dealNext next left act s))
    (hact : ∀ s x rest, stands s → left s = x :: rest → stands (act s x) ∧ left (act s x) = rest) (s : State)
    (hs : stands s) :
    again (max 1 (left s).length) c s = .next (toStage next ((left s).foldl act s)) := by
  generalize hl : left s = l
  induction l generalizing s with
  | nil =>
    show (match exec c s with | .next t => again 0 c t | .fault r => .fault r | .refused r => .refused r) = _
    rw [hexec s hs, dealNext_none hl]
    rfl
  | cons x rest ih =>
    obtain ⟨hstands, hrest⟩ := hact s x rest hs hl
    have one : exec c s = .next (if rest = [] then toStage next (act s x) else act s x) := by
      rw [hexec s hs, dealNext_cons hl hrest]
    cases hr : rest with
    | nil =>
      show (match exec c s with | .next t => again 0 c t | .fault r => .fault r | .refused r => .refused r) = _
      rw [one, if_pos hr]
      rfl
    | cons y later =>
      rw [show max 1 (x :: y :: later).length = (max 1 rest.length) + 1 by simp [hr]]
      show (match exec c s with
        | .next t => again (max 1 rest.length) c t | .fault r => .fault r | .refused r => .refused r) = _
      rw [one, if_neg (by simp [hr])]
      exact (ih _ hstands hrest).trans (by rw [hr]; rfl)

/-- Where the place in the records plays no part in an act, the acts of a stage that counts come to the acts alone. -/
theorem foldl_atPlace {f : State → α → State} (hf : ∀ g n s x, atPlace g n (f s x) = f (atPlace g n s) x)
    (g : PassState) (n : Nat) (l : List α) (s : State) : atPlace g n (l.foldl f s) = l.foldl f (atPlace g n s) := by
  induction l generalizing s with
  | nil => rfl
  | cons x rest ih => rw [List.foldl_cons, ih, hf, List.foldl_cons]

theorem foldl_counted {f : State → α → State} {place : State → α → Nat}
    (hf : ∀ g n s x, atPlace g n (f s x) = f (atPlace g n s) x) (hact : ∀ s x, act s x = reach (place s x) (f s x))
    (l : List α) (s : State) : toStage next (l.foldl act s) = toStage next (l.foldl f s) := by
  induction l generalizing s with
  | nil => rfl
  | cons x rest ih =>
    rw [List.foldl_cons, ih, List.foldl_cons, hact, toStage_eq_atPlace, toStage_eq_atPlace, foldl_atPlace hf,
      foldl_atPlace hf]
    rfl

end EveryRecord

/-! ### Parcels in ascending number -/

/-- The parcels left after one was dealt with are those left before it but the first, where the act made no other
parcel one to deal with, or none to. -/
theorem parcelsLeft_rest {takes : ParcelRec → Bool} {p : ParcelNo} {rest : List ParcelNo}
    (h : parcelsLeft takes s = p :: rest) (hreached : t.ee.visited = p.val + 1)
    (hsame : ∀ q, q ≠ p → takes t.parcels[q] = takes s.parcels[q]) : parcelsLeft takes t = rest := by
  have sorted : (parcelsLeft takes s).Pairwise (· < ·) := (List.pairwise_lt_finRange 8).filter _
  rw [h] at sorted
  obtain ⟨hfirst, -⟩ := List.pairwise_cons.1 sorted
  have hmem (q : ParcelNo) : q ∈ parcelsLeft takes s ↔ s.ee.visited ≤ q.val ∧ takes s.parcels[q] = true := by
    simp [parcelsLeft, List.mem_filter, List.mem_finRange]
  have hp : s.ee.visited ≤ p.val := ((hmem p).1 (by simp [h])).1
  calc parcelsLeft takes t
    _ = (parcelsLeft takes s).filter fun q => decide (q ≠ p) := by
      unfold parcelsLeft
      rw [List.filter_filter]
      refine List.filter_congr fun q _ => ?_
      by_cases hq : q = p
      · subst hq
        simp [hreached]
      · rw [hsame q hq, hreached]
        by_cases htakes : takes s.parcels[q] = true
        · have hlt : s.ee.visited ≤ q.val ↔ p.val + 1 ≤ q.val := by
            refine ⟨fun hv => ?_, fun hv => by omega⟩
            have := (hmem q).2 ⟨hv, htakes⟩
            rw [h] at this
            exact hfirst q ((List.mem_cons.1 this).resolve_left hq)
          rw [htakes]
          simp [hq, hlt]
        · rw [Bool.not_eq_true] at htakes
          rw [htakes]
          simp
    _ = rest := by
      rw [h, List.filter_cons_of_neg (by simp), List.filter_eq_self]
      exact fun q hq => by simpa using (hfirst q hq).ne'

/-- Acts that pass over what is not theirs to deal with come to the same over all. -/
theorem foldl_filter_takes {α : Type} {f : State → α → State} {takes : State → α → Bool} {l : List α}
    (hl : l.Nodup) (hpass : ∀ s x, takes s x = false → f s x = s)
    (hother : ∀ s x y, y ≠ x → takes (f s x) y = takes s y) (s : State) :
    (l.filter (takes s)).foldl f s = l.foldl f s := by
  induction l generalizing s with
  | nil => rfl
  | cons x rest ih =>
    obtain ⟨hx, hrest⟩ := List.nodup_cons.1 hl
    have later : rest.filter (takes s) = rest.filter (takes (f s x)) :=
      List.filter_congr fun y hy => (hother s x y (fun e => hx (e ▸ hy))).symm
    by_cases htakes : takes s x = true
    · rw [List.filter_cons_of_pos htakes, List.foldl_cons, later, ih hrest, List.foldl_cons]
    · rw [List.filter_cons_of_neg htakes, List.foldl_cons, hpass s x (by simpa using htakes), ih hrest]

end Sys2Proof.Laws
end

section
/-! SUPPORT. The commands of the stages, with no act due, at the stage that the pass has reached. -/

namespace Sys2Proof.Laws

open Machine Safety

variable {s : State} {n : Snapshot}

theorem exec_handOver (stage : s.ee.pass = .running .handOver) (calm : Calm s) :
    exec .handOver s = .next (offerCopy s) := by
  show Host.Outcome.next (atStage .handOver offerCopy (settle s)) = _
  rw [settle_calm calm, atStage_here _ stage]

theorem exec_snapshot (stage : s.ee.pass = .running .snapshot) (calm : Calm s) :
    exec .snapshot s = .next (fillSnapshot s) := by
  show Host.Outcome.next (atStage .snapshot fillSnapshot (settle s)) = _
  rw [settle_calm calm, atStage_here _ stage]

/-- A stage that counts its records, with the snapshot it reads. -/
def AtCount (g : Stage) (n : Snapshot) (s : State) : Prop :=
  s.ee.pass = .running g ∧ s.ee.snapshot = some n ∧ Calm s

theorem atCount_of_leaves {g : Stage} {t : State} (h : AtCount g n s) (hpass : t.ee.pass = s.ee.pass)
    (hsnapshot : t.ee.snapshot = s.ee.snapshot) (hdue : LeavesDue s t) : AtCount g n t := by
  obtain ⟨stage, held, calm⟩ := h
  exact ⟨hpass.trans stage, hsnapshot.trans held, hdue.calm calm⟩

theorem exec_holdCauses (h : AtCount .holdCauses n s) :
    exec .holdCauseRecomputation s = .next (recomputeNext n s) := by
  obtain ⟨stage, held, calm⟩ := h
  show Host.Outcome.next (atStage .holdCauses (withSnapshot recomputeNext) (settle s)) = _
  rw [settle_calm calm, atStage_here _ stage, withSnapshot_some _ held]

theorem exec_tankVolumes (h : AtCount .tankVolumes n s) :
    exec .standardVolumeComputation s = .next (computeNext n s) := by
  obtain ⟨stage, held, calm⟩ := h
  show Host.Outcome.next (atStage .tankVolumes (withSnapshot computeNext) (settle s)) = _
  rw [settle_calm calm, atStage_here _ stage, withSnapshot_some _ held]

theorem exec_meterFlow (h : AtCount .meterFlow n s) : exec .meterConsumption s = .next (consumeNext n s) := by
  obtain ⟨stage, held, calm⟩ := h
  show Host.Outcome.next (atStage .meterFlow (withSnapshot consumeNext) (settle s)) = _
  rw [settle_calm calm, atStage_here _ stage, withSnapshot_some _ held]

theorem exec_marks (h : AtCount .marks n s) : exec .markApplication s = .next (markNext n s) := by
  obtain ⟨stage, held, calm⟩ := h
  show Host.Outcome.next (atStage .marks (withSnapshot markNext) (settle s)) = _
  rw [settle_calm calm, atStage_here _ stage, withSnapshot_some _ held]

theorem exec_figures (stage : s.ee.pass = .running .figures) (calm : Calm s) :
    exec .figureEvaluation s = .next (evaluateNext s) := by
  show Host.Outcome.next (atStage .figures evaluateNext (settle s)) = _
  rw [settle_calm calm, atStage_here _ stage]

theorem exec_publication (stage : s.ee.pass = .running .publication) (calm : Calm s) :
    exec .publication s = .next (completePass (publishAll s)) := by
  show Host.Outcome.next (atStage .publication (fun t => completePass (publishAll t)) (settle s)) = _
  rw [settle_calm calm, atStage_here _ stage]

/-- A pass start takes the staged copy, and leaves the hand-over copy where none is staged (R35). -/
theorem toHandOver_eq {α : Type} (d : Decls α) :
    d.toHandOver = ⟨d.current, none, if d.staged.isSome then d.staged else d.handOver⟩ := by
  obtain ⟨current, staged, handOver⟩ := d
  cases staged <;> rfl

/-- The published set: the evaluated figures, or those that stood (R104). -/
theorem publishing_eq (r : ParcelRec) (evaluated : Option Figures) : r.publishing evaluated =
    { figures := match evaluated with | some f => f | none => r.published.figures
      state := r.state
      closedWhileHeld := r.closedWhileHeld } := by
  cases evaluated <;> rfl

/-! ### Stage 3 -/

end Sys2Proof.Laws
end

section
/-! PROOFS. The begin of a pass, its snapshot and its publication. -/

namespace Sys2Proof.Proofs

open Machine Safety Laws

/-- Settles O27. -/
theorem passStartTakesStagedCopies : Obligations.PassStartTakesStagedCopies := by
  intro s moved
  unfold beginPass
  simp only [toHandOver_eq]
  rfl

/-- Settles O34: the snapshot is read off the tables and the freshness. -/
theorem snapshotTakesLiveReadings : Obligations.SnapshotTakesLiveReadings := by
  intro s stage calm
  refine ⟨takeSnapshot s, exec_snapshot stage calm, fun e => mem_takeSnapshot_tanks, fun e => ?_, rfl, fun a => ?_⟩
  · show e ∈ snapMeters s ↔ _
    rw [snapMeters, List.mem_filterMap]
    simp only [Option.map_eq_some_iff, @eq_comm _ _ e]
  · simp [takeSnapshot, isStale]

/-- Settles O45: what the completion does is what its parts do one after another. -/
theorem publicationEndsPass : Obligations.PublicationEndsPass := by
  intro s stage calm published counted
  rw [exec_publication stage calm]
  have parcels : (publishAll s).parcels = published.parcels := by
    refine congrArg Vector.ofFn (funext fun p => ?_)
    exact congrArg (fun x : Published => ({ s.parcels[p] with published := x } : ParcelRec)) (publishing_eq _ _)
  have publishes : countEvent 1 (discardPass (publishAll s)) = counted := by
    show State.mapTimer { s with
      parcels := (publishAll s).parcels
      ee := { s.ee with snapshot := none, evaluated := Vector.replicate 8 none } } 1 Timer.countEvent = _
    rw [parcels]
  unfold completePass
  dsimp only
  rw [publishes]
  exact ⟨fun hp => congrArg _ (if_neg (by rw [show counted.ee.pending = s.ee.pending from rfl, hp]; decide)),
    fun hp => congrArg _ (if_pos hp)⟩

end Sys2Proof.Proofs
end

section
/-! SUPPORT. Stage 3: the hold causes of a parcel, and what the stage does with all of them (R91, R113). -/

namespace Sys2Proof.Laws

open Machine Safety

variable {s t : State} {n : Snapshot} {p : ParcelNo}

theorem basis?_eq_some_iff {r : ParcelRec} {b : Basis} :
    r.basis? = some b ↔ ∃ c, r.decl.current = some c ∧ c.contents.basis = b := by
  simp [ParcelRec.basis?]

theorem mem_termsOfParcel {x : Term} :
    x ∈ termsOfParcel s p ↔ ∃ q : TermPos, s.terms[q].term = some x ∧ x.parcel = p := by
  rw [termsOfParcel, List.mem_filter, mem_heldTerms, decide_eq_true_iff]
  exact ⟨fun ⟨⟨q, hq⟩, hp⟩ => ⟨q, hq, hp⟩, fun ⟨q, hq, hp⟩ => ⟨⟨q, hq⟩, hp⟩⟩

theorem meterDeferred_iff {k : Key} :
    meterDeferred s k = true ↔ ∃ m w, s.meter? k = some m ∧ m.work = some w ∧ w.deferred = true := by
  unfold meterDeferred
  cases s.meter? k with
  | none => simp
  | some m => cases hw : m.work <;> simp [hw]

theorem tankStaleCause_iff {stale : Vector Bool 63} {basis : Option Basis} :
    tankStaleCause s stale p basis = true ↔ ∃ k w, (k, w) ∈ assignedTanks s p ∧ stale[k.station] = true
      ∧ (w.side = .ship ∨ (w.side = .shore ∧ basis = some .tank)) := by
  simp only [tankStaleCause, List.any_eq_true, Bool.and_eq_true, Bool.or_eq_true, decide_eq_true_iff, Prod.exists]
  refine exists_congr fun k => exists_congr fun w => and_congr_right fun _ => ?_
  cases hw : w.side <;> simp [and_comm]

theorem meterStaleCause_iff {stale : Vector Bool 63} {basis : Option Basis} :
    meterStaleCause s stale p basis = true ↔ basis = some .meter ∧ ∃ q : TermPos, ∃ x, s.terms[q].term = some x
      ∧ x.parcel = p ∧ (stale[x.meter.station] = true
        ∨ ∃ m w, s.meter? x.meter = some m ∧ m.work = some w ∧ w.deferred = true) := by
  simp only [meterStaleCause, Bool.and_eq_true, decide_eq_true_iff, List.any_eq_true, mem_termsOfParcel,
    Bool.or_eq_true, meterDeferred_iff]
  refine and_congr_right fun _ => ⟨?_, ?_⟩
  · rintro ⟨x, ⟨q, hq, hp⟩, hx⟩
    exact ⟨q, x, hq, hp, hx.symm⟩
  · rintro ⟨q, x, hq, hp, hx⟩
    exact ⟨x, ⟨q, hq, hp⟩, hx.symm⟩

/-- A parcel's record after stage 3. -/
def recomputedParcel (n : Snapshot) (s : State) (p : ParcelNo) : ParcelRec :=
  if s.parcels[p].state.working then s.parcels[p].withHolds (recomputedHolds s n.stale p) else s.parcels[p]

theorem recomputeHold_eq : recomputeHold n s p = s.putParcel p (recomputedParcel n s p) := by
  unfold recomputeHold recomputedParcel
  split
  · rfl
  · rw [State.putParcel, setPlace_same]

/-- Stage 3 judges a parcel by its own record, the tanks, the meters, the terms and ESD (R91). -/
theorem recomputedParcel_of_same {v : Vector ParcelRec 8} (h : v[p] = s.parcels[p]) :
    recomputedParcel n { s with parcels := v } p = recomputedParcel n s p := by
  unfold recomputedParcel recomputedHolds
  rw [h]
  rfl

/-- The parcels that stage 3 has dealt with stand recomputed, the others as they were. -/
theorem foldl_recomputeHold {l : List ParcelNo} (hl : l.Nodup) (s : State) :
    ∃ v : Vector ParcelRec 8, l.foldl (recomputeHold n) s = { s with parcels := v }
      ∧ ∀ q : ParcelNo, (q ∈ l → v[q] = recomputedParcel n s q) ∧ (q ∉ l → v[q] = s.parcels[q]) := by
  induction l generalizing s with
  | nil => exact ⟨s.parcels, rfl, fun q => ⟨fun h => (by cases h), fun _ => rfl⟩⟩
  | cons p rest ih =>
    obtain ⟨hp, hrest⟩ := List.nodup_cons.1 hl
    obtain ⟨v, hfold, hv⟩ := ih hrest (s.putParcel p (recomputedParcel n s p))
    refine ⟨v, by rw [List.foldl_cons, recomputeHold_eq, hfold]; rfl, fun q => ?_⟩
    obtain ⟨hin, hout⟩ := hv q
    have other (hq : q ≠ p) : (s.putParcel p (recomputedParcel n s p)).parcels[q] = s.parcels[q] :=
      setPlace_get_ne _ _ hq
    refine ⟨fun hmem => ?_, fun hmem => ?_⟩
    · rcases List.mem_cons.1 hmem with rfl | hmem
      · exact (hout hp).trans (setPlace_get_self _ _ _)
      · have hq : q ≠ p := fun e => hp (e ▸ hmem)
        exact (hin hmem).trans (recomputedParcel_of_same (other hq))
    · rw [List.mem_cons, not_or] at hmem
      exact (hout hmem.2).trans (other hmem.1)

theorem withHolds_working (r : ParcelRec) (h : HoldSet) : (r.withHolds h).state.working = true := by
  show (if h.isEmpty then ParcelState.active else .held).working = true
  split <;> rfl

/-- Stage 3 leaves every parcel ACTIVE or HELD where it was, and none where it was not. -/
theorem recomputeHold_working (q : ParcelNo) :
    (recomputeHold n s p).parcels[q].state.working = s.parcels[q].state.working := by
  rw [recomputeHold_eq, State.putParcel, setPlace_get]
  split
  · next hq =>
    subst hq
    unfold recomputedParcel
    split
    · next hw => rw [withHolds_working, hw]
    · rfl
  · rfl

theorem recomputeHold_left {rest : List ParcelNo} (h : parcelsLeft (·.state.working) s = p :: rest) :
    parcelsLeft (·.state.working) (dealParcel (recomputeHold n) s p) = rest :=
  parcelsLeft_rest h rfl fun q _ => recomputeHold_working q

/-- Stage 3 by one parcel (R91, R113). -/
theorem recomputeNext_cons {rest : List ParcelNo} (h : parcelsLeft (·.state.working) s = p :: rest) :
    recomputeNext n s = stageOn .tankVolumes (decide (rest ≠ [])) (p.val + 1) (recomputeHold n s p) :=
  dealNext_place h rfl (recomputeHold_left h)

/-- Stage 3 by as many commands as it has parcels. -/
theorem again_recomputeNext (h : AtCount .holdCauses n s) :
    again (max 1 (parcelsLeft (·.state.working) s).length) .holdCauseRecomputation s
      = .next (toStage .tankVolumes ((parcelsLeft (·.state.working) s).foldl (recomputeHold n) s)) := by
  have each := again_dealNext (stands := AtCount .holdCauses n) (next := .tankVolumes)
    (act := dealParcel (recomputeHold n)) (fun _ => exec_holdCauses) (fun s p rest hs hl => ⟨?_, recomputeHold_left hl⟩)
    s h
  · rw [each]
    exact congrArg _ (foldl_counted (fun g n s x => recomputeHold_atPlace g n s _ x) (fun _ _ => rfl) _ s)
  · refine atCount_of_leaves hs ?_ ?_ ?_
    · show (recomputeHold n s p).ee.pass = _
      rw [recomputeHold_ee]
    · show (recomputeHold n s p).ee.snapshot = _
      rw [recomputeHold_ee]
    · exact atPlace_leavesDue _ _ (recomputeHold_leavesDue n p)

end Sys2Proof.Laws
end

section
/-! PROOFS. The recomputation of the hold causes. -/

namespace Sys2Proof.Proofs

open Machine Safety Laws

/-- Settles O35: what stage 3 makes of one parcel, and of all of them. -/
theorem holdCausesRecomputed : Obligations.HoldCausesRecomputed := by
  intro s n stage held calm works basis recomputed left
  have hat : AtCount .holdCauses n s := ⟨stage, held, calm⟩
  have hleft : left = parcelsLeft (·.state.working) s := by
    refine List.filter_congr fun p _ => ?_
    rw [Bool.eq_iff_iff, decide_eq_true_iff, Bool.and_eq_true, decide_eq_true_iff, working_iff]
  have one (p : ParcelNo) (hp : works p) : recomputed p (recomputedParcel n s p) := by
    have hworking : s.parcels[p].state.working = true := (working_iff _).2 hp
    refine ⟨recomputedHolds s n.stale p, ?_, ?_, ?_, decide_eq_true_iff, rfl⟩
    · rw [recomputedParcel, if_pos hworking, ParcelRec.withHolds]
      simp only [holdSet_isEmpty_iff]
      rfl
    · refine tankStaleCause_iff.trans ?_
      simp only [basis?_eq_some_iff]
      rfl
    · refine meterStaleCause_iff.trans ?_
      rw [basis?_eq_some_iff]
  have works_of_mem (p : ParcelNo) (hp : p ∈ left) : works p := by
    have := (List.mem_filter.1 hp).2
    exact (of_decide_eq_true this).2
  refine ⟨fun hnone => ?_, fun p rest hl => ⟨recomputedParcel n s p, one p (works_of_mem p (by simp [hl])), ?_⟩, ?_⟩
  · rw [exec_holdCauses hat]
    exact congrArg _ (dealNext_none (hleft ▸ hnone))
  · rw [exec_holdCauses hat, recomputeNext_cons (hleft ▸ hl), recomputeHold_eq]
  · obtain ⟨v, hfold, hv⟩ := foldl_recomputeHold (n := n) (l := left) ((List.nodup_finRange 8).filter _) s
    refine ⟨v, ?_, fun p => ⟨fun hp => ?_, (hv p).2⟩⟩
    · rw [hleft, again_recomputeNext hat, ← hleft, hfold]
      rfl
    · rw [(hv p).1 hp]
      exact one p (works_of_mem p hp)

end Sys2Proof.Proofs
end

section
/-! SUPPORT. Stage 4: the current standard volume of a tank, and of all the tanks of the snapshot (R53, R54, R113). -/

namespace Sys2Proof.Laws

open Machine Safety

variable {s t : State} {n : Snapshot} {r : TankRec} {w : TankWork} {e : TankSnap} {p : ParcelNo}

/-! ### One tank -/

theorem tankVolume_unassigned (hw : r.work = some w) (he : n.tank? r.key = some e) (hp : w.parcel = none) :
    tankVolume n s r = { r with work := some { w with current := none } } := by
  unfold tankVolume
  rw [hw, he]
  dsimp only
  rw [hp]

theorem tankVolume_assigned (hw : r.work = some w) (he : n.tank? r.key = some e) (hp : w.parcel = some p)
    (hopen : s.parcels[p].state ≠ .closed) : tankVolume n s r =
      match computingAlpha s p, e.reading with
      | some alpha, some reading => { r with work := some (w.computed alpha reading) }
      | _, _ => { r with work := some { w with current := none } } := by
  unfold tankVolume
  rw [hw, he]
  dsimp only
  rw [hp]
  exact if_neg hopen

theorem tankVolume_emptied (hw : r.work = some w) (he : n.tank? r.key = some e) (hp : w.parcel = some p)
    (hopen : s.parcels[p].state ≠ .closed) (hnone : computingAlpha s p = none ∨ e.reading = none) :
    tankVolume n s r = { r with work := some { w with current := none } } := by
  rw [tankVolume_assigned hw he hp hopen]
  rcases hnone with h | h <;> rw [h]
  cases computingAlpha s p <;> rfl

theorem tankVolume_taken {alpha : Nat} {reading : GaugeReading} (hw : r.work = some w) (he : n.tank? r.key = some e)
    (hp : w.parcel = some p) (hopen : s.parcels[p].state ≠ .closed) (ha : computingAlpha s p = some alpha)
    (hr : e.reading = some reading) : tankVolume n s r = { r with work := some (w.computed alpha reading) } := by
  rw [tankVolume_assigned hw he hp hopen, ha, hr]

theorem computed_computed (w : TankWork) (alpha : Nat) (reading : GaugeReading) :
    (w.computed alpha reading).computed alpha reading = w.computed alpha reading := by
  simp [TankWork.computed]

theorem tankVolume_absent (h : r.work = none ∨ n.tank? r.key = none) : tankVolume n s r = r := by
  unfold tankVolume
  rcases h with h | h
  · rw [h]
  · rw [h]
    cases r.work <;> rfl

/-- A tank computed twice from one snapshot stands as computed once. -/
theorem tankVolume_twice : tankVolume n s (tankVolume n s r) = tankVolume n s r := by
  cases hw : r.work with
  | none => rw [tankVolume_absent (.inl hw), tankVolume_absent (.inl hw)]
  | some w =>
    cases he : n.tank? r.key with
    | none => rw [tankVolume_absent (.inr he), tankVolume_absent (.inr he)]
    | some e =>
      cases hp : w.parcel with
      | none =>
        rw [tankVolume_unassigned hw he hp]
        exact tankVolume_unassigned (w := { w with current := none }) rfl he hp
      | some p =>
        by_cases hclosed : s.parcels[p].state = .closed
        · rw [tankVolume_closed hw hp hclosed, tankVolume_closed hw hp hclosed]
        · cases ha : computingAlpha s p with
          | none =>
            rw [tankVolume_emptied hw he hp hclosed (.inl ha)]
            exact tankVolume_emptied (w := { w with current := none }) rfl he hp hclosed (.inl ha)
          | some alpha =>
            cases hr : e.reading with
            | none =>
              rw [tankVolume_emptied hw he hp hclosed (.inr hr)]
              exact tankVolume_emptied (w := { w with current := none }) rfl he hp hclosed (.inr hr)
            | some reading =>
              rw [tankVolume_taken hw he hp hclosed ha hr]
              refine (tankVolume_taken (r := { r with work := some (w.computed alpha reading) })
                (w := w.computed alpha reading) rfl he hp hclosed ha hr).trans ?_
              rw [computed_computed]

/-! ### One tank of the table -/

/-- A record put at the place of a key that stands. -/
theorem putRec_eq_map {α : Type} {ord : α → Nat} {x r : α} {l : List α} (hl : keysRising ord l = true)
    (found : findRec ord (ord x) l = some r) : putRec ord x l = l.map fun y => if ord y = ord x then x else y := by
  rw [keysRising_iff] at hl
  induction l with
  | nil => cases found
  | cons y ys ih =>
    obtain ⟨hy, hys⟩ := List.pairwise_cons.1 hl
    by_cases heq : ord x = ord y
    · have later : ys.map (fun z => if ord z = ord x then x else z) = ys := by
        refine (List.map_congr_left fun z hz => ?_).trans (List.map_id' ys)
        exact if_neg (fun hz' => (hy z hz).ne (heq.symm.trans hz'.symm))
      rw [List.map_cons, later, if_pos heq.symm]
      simp [putRec, heq]
    · have htail : findRec ord (ord x) ys = some r := by simpa [findRec, Ne.symm heq] using found
      have hlt : ord y < ord x := findRec_ord htail ▸ hy r (findRec_mem htail)
      rw [List.map_cons, if_neg (Ne.symm heq), ← ih hys htail]
      simp [putRec, hlt.not_gt, heq]

theorem keyCode_eq_iff {a b : Key} : keyCode a = keyCode b ↔ a = b := ⟨keyCode_injective, congrArg keyCode⟩

/-- Stage 4 for a snapshot entry computes the one tank of its key. -/
theorem computeVolume_eq (hs : keysRising tankOrd s.tanks = true) : computeVolume n s e
    = { s with tanks := s.tanks.map fun r => if r.key = e.key then tankVolume n s r else r } := by
  unfold computeVolume
  cases found : s.tank? e.key with
  | none =>
    have same : s.tanks.map (fun r => if r.key = e.key then tankVolume n s r else r) = s.tanks := by
      refine (List.map_congr_left fun r hr => if_neg fun hk => ?_).trans (List.map_id' _)
      have hfound := findRec_of_mem hs hr
      rw [show tankOrd r = keyCode e.key from congrArg keyCode hk] at hfound
      cases found.symm.trans hfound
    rw [same]
    rfl
  | some x =>
    have hx : tankOrd x = keyCode e.key := findRec_ord found
    have hord : tankOrd (tankVolume n s x) = keyCode e.key := (congrArg keyCode (tankVolume_leaves n s x).1).trans hx
    show s.putTank (tankVolume n s x) = _
    have hfound : findRec tankOrd (tankOrd (tankVolume n s x)) s.tanks = some x := by
      rw [hord]
      exact found
    rw [State.putTank, putRec_eq_map hs hfound]
    congr 1
    refine List.map_congr_left fun y hy => ?_
    rw [hord]
    by_cases hk : y.key = e.key
    · have hyord : tankOrd y = keyCode e.key := congrArg keyCode hk
      have hxy : y = x := tank_unique hs (findRec_mem found) hy (hk.trans (keyCode_injective hx).symm)
      rw [if_pos hyord, if_pos hk, hxy]
    · rw [if_neg hk, if_neg (fun h : tankOrd y = keyCode e.key => hk (keyCode_injective h))]

/-- Stage 4 keeps the tank table in key order. -/
theorem computeVolume_rising (hs : keysRising tankOrd s.tanks = true) :
    keysRising tankOrd (computeVolume n s e).tanks = true := by
  rw [computeVolume_eq hs]
  refine keysRising_map (fun r => ?_) hs
  split
  · exact congrArg keyCode (tankVolume_leaves n s r).1
  · rfl

/-- Stage 4 over some entries of the snapshot computes every tank of their keys. -/
theorem foldl_computeVolume (l : List TankSnap) (hs : keysRising tankOrd s.tanks = true) :
    l.foldl (computeVolume n) s = { s with
      tanks := s.tanks.map fun r => if l.any (fun e => decide (e.key = r.key)) then tankVolume n s r else r } := by
  induction l generalizing s with
  | nil => simp
  | cons e rest ih =>
    rw [List.foldl_cons, ih (computeVolume_rising hs), computeVolume_eq hs]
    show ({ s with tanks := (s.tanks.map _).map _ } : State) = _
    rw [List.map_map]
    congr 1
    refine List.map_congr_left fun r _ => ?_
    show (if rest.any (fun e' => decide (e'.key = (if r.key = e.key then tankVolume n s r else r).key))
      then _ else _) = _
    have volume_same (x : TankRec) :
        tankVolume n { s with tanks := s.tanks.map fun r => if r.key = e.key then tankVolume n s r else r } x
          = tankVolume n s x := rfl
    have hkey := (tankVolume_leaves n s r).1
    simp only [volume_same, List.any_cons, Bool.or_eq_true, decide_eq_true_iff]
    by_cases hk : e.key = r.key
    · have hin : e.key = r.key ∨ (rest.any fun e' => decide (e'.key = r.key)) = true := .inl hk
      rw [if_pos hk.symm, hkey, if_pos hin]
      split
      · exact tankVolume_twice
      · rfl
    · rw [if_neg (Ne.symm hk)]
      simp only [hk, false_or]

/-- Stage 4 over the whole snapshot computes every tank: one without an entry has nothing to compute. -/
theorem foldl_computeVolume_all (hs : keysRising tankOrd s.tanks = true) :
    n.tanks.foldl (computeVolume n) s = { s with tanks := s.tanks.map (tankVolume n s) } := by
  rw [foldl_computeVolume _ hs]
  congr 1
  refine List.map_congr_left fun r _ => ?_
  split
  · rfl
  · next hnone =>
    refine (tankVolume_absent (.inr ?_)).symm
    rw [Bool.not_eq_true, List.any_eq_false] at hnone
    exact List.find?_eq_none.2 hnone

/-! ### The stage -/

theorem drop_rest {α : Type} {l rest : List α} {i : Nat} {x : α} (h : l.drop i = x :: rest) :
    l.drop (i + 1) = rest := by
  rw [← List.tail_drop, h]
  rfl

/-- Whether more entries stand after one. -/
theorem drop_rest_ne_nil {α : Type} {l rest : List α} {i : Nat} {x : α} (h : l.drop i = x :: rest) :
    rest ≠ [] ↔ i + 1 < l.length := by
  rw [← drop_rest h, ne_eq, List.drop_eq_nil_iff, not_le]

theorem drop_of_getElem? {α : Type} {l : List α} {i : Nat} {x : α} (h : l[i]? = some x) :
    ∃ rest, l.drop i = x :: rest := by
  obtain ⟨hi, rfl⟩ := List.getElem?_eq_some_iff.1 h
  exact ⟨_, List.drop_eq_getElem_cons hi⟩

theorem computeNext_cons {rest : List TankSnap} (h : n.tanks.drop s.ee.visited = e :: rest) :
    computeNext n s = stageOn .meterFlow (decide (rest ≠ [])) (s.ee.visited + 1) (computeVolume n s e) :=
  dealNext_place (left := fun t => n.tanks.drop t.ee.visited) h rfl (drop_rest h)

theorem again_computeNext (h : AtCount .tankVolumes n s) (hs : keysRising tankOrd s.tanks = true) :
    again (max 1 (n.tanks.drop s.ee.visited).length) .standardVolumeComputation s
      = .next (toStage .meterFlow ((n.tanks.drop s.ee.visited).foldl (computeVolume n) s)) := by
  have each := again_dealNext (stands := fun s => AtCount .tankVolumes n s ∧ keysRising tankOrd s.tanks = true)
    (left := fun t => n.tanks.drop t.ee.visited) (next := .meterFlow) (act := dealEntry (computeVolume n))
    (fun _ hs => exec_tankVolumes hs.1) (fun s e rest hs hl => ⟨⟨?_, computeVolume_rising hs.2⟩, drop_rest hl⟩)
    s ⟨h, hs⟩
  · rw [each]
    exact congrArg _ (foldl_counted (place := fun s _ => s.ee.visited + 1)
      (fun g n s x => computeVolume_atPlace g n s _ x) (fun _ _ => rfl) _ s)
  · refine atCount_of_leaves hs.1 ?_ ?_ ?_
    · show (computeVolume n s e).ee.pass = _
      rw [computeVolume_ee]
    · show (computeVolume n s e).ee.snapshot = _
      rw [computeVolume_ee]
    · exact atPlace_leavesDue _ _ (computeVolume_leavesDue n e)

end Sys2Proof.Laws
end

section
/-! PROOFS. The standard volumes. -/

namespace Sys2Proof.Proofs

open Machine Safety Laws

/-- Settles O36: what stage 4 makes of one tank, and of all of them. -/
theorem standardVolumesComputed : Obligations.StandardVolumesComputed := by
  intro s n stage held calm htables
  have hat : AtCount .tankVolumes n s := ⟨stage, held, calm⟩
  have hs := htables.1.1
  refine ⟨fun hover => ?_, fun e he => ?_, fun hfirst => ?_, fun r w e hw he => ⟨fun p => tankVolume_closed hw, ?_, ?_⟩⟩
  · rw [exec_tankVolumes hat]
    exact congrArg _ (dealNext_none (left := fun t => n.tanks.drop t.ee.visited) (List.drop_eq_nil_iff.2 hover))
  · obtain ⟨rest, hdrop⟩ := drop_of_getElem? he
    rw [exec_tankVolumes hat, computeNext_cons hdrop, computeVolume_eq hs]
    simp only [drop_rest_ne_nil hdrop]
  · have each := again_computeNext hat hs
    rw [hfirst, List.drop_zero, foldl_computeVolume_all hs] at each
    exact each
  · rintro (hp | ⟨p, hp, hvacant⟩ | ⟨hr, hopen⟩)
    · exact tankVolume_unassigned hw he hp
    · refine tankVolume_emptied hw he hp (by rw [hvacant]; decide) (.inl (if_neg ?_))
      rw [hvacant]
      decide
    · rcases Option.eq_none_or_eq_some w.parcel with hp | ⟨p, hp⟩
      · exact tankVolume_unassigned hw he hp
      · exact tankVolume_emptied hw he hp (hopen p hp) (.inr hr)
  · intro p alpha reading hp ha hr hstate
    have hcomputes : s.parcels[p].state.computesTanks = true := by rcases hstate with h | h | h <;> rw [h] <;> rfl
    have hopen : s.parcels[p].state ≠ .closed := by rcases hstate with h | h | h <;> rw [h] <;> decide
    exact tankVolume_taken hw he hp hopen ((if_pos hcomputes).trans ha) hr

end Sys2Proof.Proofs
end

section
/-! SUPPORT. Stage 5: the classes of a meter's flow, the accumulators, and the meters of the snapshot in key order
(R73 to R75, R78, R113). -/

namespace Sys2Proof.Laws

open Machine Safety

variable {s t : State} {n : Snapshot} {r : MeterRec} {w : MeterWork} {e : MeterSnap}

/-! ### The classes -/

theorem consumeMeter_undeclared (h : s.meter? e.key = none ∨ ∃ r, s.meter? e.key = some r ∧ r.work = none) :
    consumeMeter n s e = s := by
  unfold consumeMeter
  rcases h with h | ⟨r, h, hw⟩
  · rw [h]
  · rw [h]
    dsimp only
    rw [hw]

theorem consume_no_reading (h : e.reading = none) : consume n r w e s = putWork r (w.settled w.baseline) s := by
  simp [consume, h]

theorem consume_first {reading : MeterReading} (h : e.reading = some reading) (hb : w.baseline = none) :
    consume n r w e s = putWork r (w.settled (some reading.cumulative)) s := by
  simp [consume, h, hb]

section Delta

variable {reading : MeterReading} {baseline : BitVec 24} (h : e.reading = some reading)
  (hb : w.baseline = some baseline)
include h hb

theorem consume_no_flow (hd : indicatedDelta reading.cumulative baseline = 0) :
    consume n r w e s = putWork r (w.settled w.baseline) s := by
  simp [consume, h, hb, hd]

theorem consume_break (hd : largestFlow < indicatedDelta reading.cumulative baseline) :
    consume n r w e s = meterBreak r w reading.cumulative (indicatedDelta reading.cumulative baseline) s := by
  have hne : indicatedDelta reading.cumulative baseline ≠ 0 := Nat.ne_of_gt (Nat.zero_lt_of_lt hd)
  simp [consume, h, hb, hd, hne]

theorem consume_deferred (hne : indicatedDelta reading.cumulative baseline ≠ 0)
    (hle : ¬largestFlow < indicatedDelta reading.cumulative baseline)
    (hdefers : n.defers (termsOfMeter s r.key) = true) :
    consume n r w e s = meterDefer r w (termsOfMeter s r.key) s := by
  simp [consume, h, hb, hne, hle, hdefers]

end Delta

theorem indicatedDelta_self (x : BitVec 24) : indicatedDelta x x = 0 := by simp [indicatedDelta]

/-- A literal's station is stale in the snapshot, or its entry has taken no frame (R75). -/
theorem valveStale_iff {a : Station} :
    n.valveStale a = true ↔ n.stale[a] = true ∨ ∀ v, n.valve? a = some v → v.heard = false := by
  rw [← not_iff_not, Bool.not_eq_true, valveStale_eq_false_iff, not_or, Bool.not_eq_true]
  refine and_congr_right fun _ => ?_
  cases n.valve? a <;> simp

theorem defers_iff {k : Key} : n.defers (termsOfMeter s k) = true ↔
    ∃ q : TermPos, ∃ x, s.terms[q].term = some x ∧ x.meter = k ∧ ∃ l ∈ x.literals,
      n.stale[l.station] = true ∨ ∀ v, n.valve? l.station = some v → v.heard = false := by
  simp only [Snapshot.defers, List.any_eq_true, valveStale_iff, mem_termsOfMeter]
  exact ⟨fun ⟨x, ⟨q, hq, hk⟩, hl⟩ => ⟨q, x, hq, hk, hl⟩, fun ⟨q, x, hq, hk, hl⟩ => ⟨x, ⟨q, hq, hk⟩, hl⟩⟩

/-- METER-STALE enters the set of an ACTIVE or HELD parcel of basis METER that a term names (R75, R90). -/
theorem meterDefer_parcel (terms : List Term) (p : ParcelNo) : (meterDefer r w terms s).parcels[p]
    = if terms.any (fun x => decide (x.parcel = p)) && decide (s.parcels[p].basis? = some .meter) then
        s.parcels[p].addHold fun h => { h with meterStale := true }
      else s.parcels[p] := mapPlaces_get _ _ _

/-- A parcel that a term of a deferred meter names, with basis METER. -/
theorem namesBasisMeter_iff {k : Key} {p : ParcelNo} :
    ((termsOfMeter s k).any (fun x => decide (x.parcel = p)) && decide (s.parcels[p].basis? = some .meter)) = true
      ↔ (∃ q : TermPos, ∃ x, s.terms[q].term = some x ∧ x.meter = k ∧ x.parcel = p)
        ∧ ∃ c, s.parcels[p].decl.current = some c ∧ c.contents.basis = .meter := by
  rw [Bool.and_eq_true, List.any_eq_true, decide_eq_true_iff, basis?_eq_some_iff]
  refine and_congr_left' ?_
  simp only [mem_termsOfMeter, decide_eq_true_iff]
  exact ⟨fun ⟨x, ⟨q, hq, hk⟩, hp⟩ => ⟨q, x, hq, hk, hp⟩, fun ⟨q, x, hq, hk, hp⟩ => ⟨x, ⟨q, hq, hk⟩, hp⟩⟩

/-! ### The accumulators (R78) -/

/-- A meter whose three accumulators stand as they did. -/
def KeepsAccumulators (v w : MeterWork) : Prop :=
  v.routed = w.routed ∧ v.conflict = w.conflict ∧ v.unrouted = w.unrouted

/-- A meter one of whose accumulators has taken a delta in full, up to saturation. -/
def TakesDelta (v w : MeterWork) (delta : Nat) : Prop :=
  (v.routed = min (w.routed + delta) 4294967295 ∧ v.conflict = w.conflict ∧ v.unrouted = w.unrouted)
    ∨ (v.routed = w.routed ∧ v.conflict = min (w.conflict + delta) 4294967295 ∧ v.unrouted = w.unrouted)
    ∨ (v.routed = w.routed ∧ v.conflict = w.conflict ∧ v.unrouted = min (w.unrouted + delta) 4294967295)

/-- The fields of a meter that stage 5 leaves to its frames and its declaration. -/
def KeepsInputs (v w : MeterWork) : Prop := v.factor = w.factor ∧ v.reading = w.reading ∧ v.lastSeq = w.lastSeq

theorem attributeFlow_takes (reading : MeterReading) (factor delta : Nat) (named : List ParcelNo) :
    ∃ v, (attributeFlow r w reading factor delta named s).meters = (putWork r v s).meters
      ∧ KeepsInputs v w ∧ v.baseline = some reading.cumulative ∧ TakesDelta v w delta := by
  have unrouted : ∃ v, (creditUnrouted r w reading.cumulative delta s).meters = (putWork r v s).meters
      ∧ KeepsInputs v w ∧ v.baseline = some reading.cumulative ∧ TakesDelta v w delta :=
    ⟨{ w with
      baseline := some reading.cumulative
      deferred := false
      unrouted := accumulate w.unrouted delta
      sinceNotice := (w.sinceNotice + delta) % noticeStep },
    by rw [creditUnrouted, queueAlertTimes_meters], ⟨rfl, rfl, rfl⟩, rfl, .inr (.inr ⟨rfl, rfl, rfl⟩)⟩
  unfold attributeFlow
  split
  · exact unrouted
  · split
    · exact ⟨_, rfl, ⟨rfl, rfl, rfl⟩, rfl, .inl ⟨rfl, rfl, rfl⟩⟩
    · exact unrouted
  · exact ⟨{ w with
      baseline := some reading.cumulative
      deferred := false
      conflict := accumulate w.conflict delta }, by rw [creditConflict, queueAlert_meters], ⟨rfl, rfl, rfl⟩, rfl,
      .inr (.inl ⟨rfl, rfl, rfl⟩)⟩

/-- What becomes of a meter's accumulators at stage 5: they are kept, and then the baseline too but for a first reading
and a break; or one takes the delta, with the new baseline. -/
def FlowOutcome (e : MeterSnap) (w v : MeterWork) : Prop :=
  (KeepsAccumulators v w ∧ ∀ reading baseline, e.reading = some reading → w.baseline = some baseline →
      v.baseline ≠ w.baseline → 8388608 < indicatedDelta reading.cumulative baseline)
    ∨ ∃ reading baseline, e.reading = some reading ∧ w.baseline = some baseline ∧ v.baseline ≠ w.baseline
      ∧ indicatedDelta reading.cumulative baseline ≤ 8388608
      ∧ TakesDelta v w (indicatedDelta reading.cumulative baseline)

theorem flowOutcome_kept {v : MeterWork} (hacc : KeepsAccumulators v w) (hv : v.baseline = w.baseline) :
    FlowOutcome e w v := .inl ⟨hacc, fun _ _ _ _ hne => absurd hv hne⟩

/-- Stage 5 changes the work of a meter's own record alone. -/
theorem consume_accumulates : ∃ v, (consume n r w e s).meters = (putWork r v s).meters ∧ KeepsInputs v w
    ∧ FlowOutcome e w v := by
  rcases Option.eq_none_or_eq_some e.reading with h | ⟨reading, h⟩
  · exact ⟨w.settled w.baseline, by rw [consume_no_reading h], ⟨rfl, rfl, rfl⟩, flowOutcome_kept ⟨rfl, rfl, rfl⟩ rfl⟩
  · rcases Option.eq_none_or_eq_some w.baseline with hb | ⟨baseline, hb⟩
    · refine ⟨w.settled (some reading.cumulative), by rw [consume_first h hb], ⟨rfl, rfl, rfl⟩,
        .inl ⟨⟨rfl, rfl, rfl⟩, fun _ _ _ hb' => ?_⟩⟩
      cases hb.symm.trans hb'
    · by_cases hzero : indicatedDelta reading.cumulative baseline = 0
      · exact ⟨w.settled w.baseline, by rw [consume_no_flow h hb hzero], ⟨rfl, rfl, rfl⟩,
          flowOutcome_kept ⟨rfl, rfl, rfl⟩ rfl⟩
      · by_cases hbreak : largestFlow < indicatedDelta reading.cumulative baseline
        · refine ⟨{ w with baseline := some reading.cumulative, breakSeen := true, deferred := false },
            by rw [consume_break h hb hbreak, meterBreak, queueAlert_meters], ⟨rfl, rfl, rfl⟩,
            .inl ⟨⟨rfl, rfl, rfl⟩, fun reading' baseline' h' hb' _ => ?_⟩⟩
          cases h.symm.trans h'
          cases hb.symm.trans hb'
          exact hbreak
        · by_cases hdefers : n.defers (termsOfMeter s r.key) = true
          · exact ⟨{ w with deferred := true }, by rw [consume_deferred h hb hzero hbreak hdefers]; rfl,
              ⟨rfl, rfl, rfl⟩, flowOutcome_kept ⟨rfl, rfl, rfl⟩ rfl⟩
          · have hle := Nat.le_of_not_lt hbreak
            obtain ⟨v, hm, hin, hv, htakes⟩ := attributeFlow_takes (s := s) (r := r) (w := w) reading e.factor
              (indicatedDelta reading.cumulative baseline) (trueParcels n s r.key)
            refine ⟨v, ?_, hin, .inr ⟨reading, baseline, h, hb, fun hsame => hzero ?_, hle, htakes⟩⟩
            · rw [consume_flow h hb (Nat.pos_of_ne_zero hzero) hle (by simpa using hdefers)]
              exact hm
            · cases hv.symm.trans (hsame.trans hb)
              exact indicatedDelta_self _

/-! ### The stage -/

theorem consumeNext_cons {rest : List MeterSnap} (h : n.meters.drop s.ee.visited = e :: rest) :
    consumeNext n s = stageOn .marks (decide (rest ≠ [])) (s.ee.visited + 1) (consumeMeter n s e) :=
  dealNext_place (left := fun t => n.meters.drop t.ee.visited) h rfl (drop_rest h)

theorem again_consumeNext (h : AtCount .meterFlow n s) :
    again (max 1 (n.meters.drop s.ee.visited).length) .meterConsumption s
      = .next (toStage .marks ((n.meters.drop s.ee.visited).foldl (consumeMeter n) s)) := by
  have each := again_dealNext (stands := AtCount .meterFlow n)
    (left := fun t => n.meters.drop t.ee.visited) (next := .marks) (act := dealEntry (consumeMeter n))
    (fun _ hs => exec_meterFlow hs) (fun s e rest hs hl => ⟨?_, drop_rest hl⟩) s h
  · rw [each]
    exact congrArg _ (foldl_counted (place := fun s _ => s.ee.visited + 1)
      (fun g n s x => consumeMeter_atPlace g n s _ x) (fun _ _ => rfl) _ s)
  · refine atCount_of_leaves hs ?_ ?_ ?_
    · show (consumeMeter n s e).ee.pass = _
      rw [consumeMeter_ee]
    · show (consumeMeter n s e).ee.snapshot = _
      rw [consumeMeter_ee]
    · exact atPlace_leavesDue _ _ (consumeMeter_leavesDue n e)

/-- The snapshot's meters stand in key order, as the table's do. -/
theorem takeSnapshot_meters_sorted (hs : keysRising meterOrd s.meters = true) :
    (takeSnapshot s).meters.Pairwise fun a b => keyCode a.key < keyCode b.key := by
  show (snapMeters s).Pairwise _
  rw [keysRising_iff] at hs
  rw [snapMeters, List.pairwise_filterMap]
  refine hs.imp fun {a b} hab x hx y hy => ?_
  obtain ⟨v, -, rfl⟩ := Option.map_eq_some_iff.1 hx
  obtain ⟨v', -, rfl⟩ := Option.map_eq_some_iff.1 hy
  exact hab

end Sys2Proof.Laws
end

section
/-! PROOFS. The classes of a meter's flow and its accumulators. -/

namespace Sys2Proof.Proofs

open Machine Safety Laws

/-- Settles O37: the stage's order, and the classes by reading, baseline and delta. -/
theorem meterFlowClasses : Obligations.MeterFlowClasses := by
  refine ⟨fun s n stage held calm => ?_, fun s htables => takeSnapshot_meters_sorted htables.2.1.1,
    fun n s e h => consumeMeter_undeclared h, fun n s e r w hr hw => ?_⟩
  · have hat : AtCount .meterFlow n s := ⟨stage, held, calm⟩
    refine ⟨fun hover => ?_, fun e he => ?_, fun hfirst => ?_⟩
    · rw [exec_meterFlow hat]
      exact congrArg _ (dealNext_none (left := fun t => n.meters.drop t.ee.visited) (List.drop_eq_nil_iff.2 hover))
    · obtain ⟨rest, hdrop⟩ := drop_of_getElem? he
      rw [exec_meterFlow hat, consumeNext_cons hdrop]
      simp only [drop_rest_ne_nil hdrop]
    · have each := again_consumeNext hat
      rw [hfirst, List.drop_zero] at each
      exact each
  · intro record
    have hkey : r.key = e.key := meter?_key hr
    rw [consumeMeter_declared hr hw]
    refine ⟨fun h => consume_no_reading h, fun reading h => ⟨fun hb => consume_first h hb, fun baseline hb => ?_⟩⟩
    intro delta
    have hdelta : indicatedDelta reading.cumulative baseline = delta := indicatedDelta_eq _ _
    refine ⟨fun hz => consume_no_flow h hb (hdelta.trans hz), fun hbreak => ?_, fun hpos hle hstale => ?_⟩
    · have hlarge : largestFlow < indicatedDelta reading.cumulative baseline := by rw [hdelta]; exact hbreak
      rw [consume_break h hb hlarge, meterBreak, hdelta, hkey]
      rfl
    · have hne : indicatedDelta reading.cumulative baseline ≠ 0 := by rw [hdelta]; exact Nat.ne_of_gt hpos
      have hsmall : ¬largestFlow < indicatedDelta reading.cumulative baseline := by
        rw [hdelta]
        exact Nat.not_lt.2 hle
      have hdefers : n.defers (termsOfMeter s r.key) = true := defers_iff.2 (hkey ▸ hstale)
      rw [consume_deferred h hb hne hsmall hdefers]
      refine ⟨(meterDefer r w (termsOfMeter s r.key) s).parcels, rfl, fun p => ?_⟩
      intro x held
      rw [meterDefer_parcel]
      refine ⟨fun ⟨hterm, hworks, hbasis⟩ => ?_, fun hnot => ?_⟩
      · rw [if_pos (namesBasisMeter_iff.2 ⟨hkey ▸ hterm, hbasis⟩)]
        exact if_pos ((working_iff _).2 hworks)
      · split
        · next hnames =>
          obtain ⟨hterm, hbasis⟩ := namesBasisMeter_iff.1 hnames
          exact if_neg fun hworks => hnot ⟨hkey ▸ hterm, (working_iff _).1 hworks, hbasis⟩
        · rfl

/-- Settles O39, by the classes of the flow. -/
theorem accumulatorsConserveFlow : Obligations.AccumulatorsConserveFlow := by
  intro n s e r w hr hw
  have hkey : r.key = e.key := meter?_key hr
  rw [consumeMeter_declared hr hw]
  obtain ⟨v, hm, ⟨hfactor, hreading, hseq⟩, hcases⟩ := consume_accumulates (n := n) (s := s) (r := r) (w := w) (e := e)
  have found (k : Key) : (consume n r w e s).meter? k
      = findRec meterOrd (keyCode k) (putRec meterOrd { r with work := some v } s.meters) := congrArg _ hm
  refine ⟨v, ?_, fun k hk => ?_, hfactor, hreading, hseq, ?_⟩
  · rw [found, ← hkey]
    exact findRec_putRec_self (ord := meterOrd) { r with work := some v } s.meters
  · rw [found]
    exact findRec_putRec_ne (ord := meterOrd) (r := { r with work := some v })
      (fun h : keyCode k = keyCode r.key => hk ((keyCode_injective h).trans hkey)) s.meters
  · intro same
    rcases hcases with ⟨hkeeps, hbreak⟩ | ⟨reading, baseline, h, hb, hne, hle, htakes⟩
    · refine ⟨fun _ => hkeeps, fun reading baseline h hb => ⟨fun _ => hkeeps, fun hne hle => ?_⟩⟩
      exact absurd (hbreak reading baseline h hb hne) (Nat.not_lt.2 hle)
    · refine ⟨fun hsame => ?_, fun reading' baseline' h' hb' => ?_⟩
      · rcases hsame with hs | hs | hs
        · cases h.symm.trans hs
        · cases hb.symm.trans hs
        · exact absurd hs hne
      · cases h.symm.trans h'
        cases hb.symm.trans hb'
        exact ⟨fun hlt => absurd hlt (Nat.not_lt.2 hle), fun _ _ => htakes⟩

end Sys2Proof.Proofs
end

section
/-! SUPPORT. Stages 6 and 7: the marks in hand and the figures, parcel by parcel (R97, R100, R114, R115, R124). -/

namespace Sys2Proof.Laws

open Machine Safety

variable {s t : State} {n : Snapshot} {p q : ParcelNo}

/-! ### Stage 6 -/

theorem closeParcel_inHand (d : Int) (whileHeld : Bool) (q : ParcelNo) :
    (closeParcel p d whileHeld s).parcels[q].inHand = s.parcels[q].inHand := by
  rw [closeParcel, queueAlert_parcels, State.putParcel, setPlace_get]
  split
  · next hq => rw [hq]
  · rfl

theorem putParcel_inHand {x : ParcelRec} (h : x.inHand = s.parcels[p].inHand) (q : ParcelNo) :
    (s.putParcel p x).parcels[q].inHand = s.parcels[q].inHand := by
  rw [State.putParcel, setPlace_get]
  split
  · next hq => rw [h, hq]
  · rfl

theorem planReject_inHand (subject : Subject) (rev : Byte) (why : RejectReason) (q : ParcelNo) :
    (planReject subject rev why s).parcels[q].inHand = s.parcels[q].inHand := by
  rw [planReject_parcels]

theorem refuseOpen_inHand (expected : Byte) (why : OpenReason) (q : ParcelNo) :
    (refuseOpen p expected why s).parcels[q].inHand = s.parcels[q].inHand := by
  rw [refuseOpen_parcels]

/-- What a mark asks for touches no mark in hand. -/
theorem applyKind_inHand (m : Mark) (q : ParcelNo) :
    (applyKind n p m s).parcels[q].inHand = s.parcels[q].inHand := by
  have released : (releaseNow p s).parcels[q].inHand = s.parcels[q].inHand :=
    putParcel_inHand (x := s.parcels[p].releasedNow) rfl q
  unfold applyKind
  split
  · unfold applyOpen
    split
    · exact refuseOpen_inHand _ _ q
    · exact putParcel_inHand (x := s.parcels[p].openedNow) rfl q
  · unfold applyClose
    split
    · exact putParcel_inHand (x := { s.parcels[p] with closing := true }) rfl q
    · exact closeParcel_inHand _ _ q
    · exact planReject_inHand _ _ _ q
  · unfold applyRelease
    split
    · exact released
    · exact released
    · rfl
    · exact planReject_inHand _ _ _ q

theorem applyMark_none (h : s.parcels[p].inHand = none) : applyMark n s p = s := by
  unfold applyMark
  rw [h]

/-- A mark applied is no longer in hand; every other mark is left there. -/
theorem applyMark_inHand (q : ParcelNo) :
    (applyMark n s p).parcels[q].inHand = if q = p then none else s.parcels[q].inHand := by
  unfold applyMark
  split
  · next hnone =>
    split
    · next hq => rw [hq, hnone]
    · rfl
  · have gone : (s.putParcel p { s.parcels[p] with inHand := none }).parcels[q].inHand
        = if q = p then none else s.parcels[q].inHand := by
      rw [State.putParcel, setPlace_get]
      split <;> rfl
    dsimp only
    split
    · rw [applyKind_inHand, gone]
    · unfold refuseRevision
      split
      · exact (refuseOpen_inHand _ _ q).trans gone
      · exact (planReject_inHand _ _ _ q).trans gone

theorem applyMark_left {rest : List ParcelNo} (h : parcelsLeft (·.inHand.isSome) s = p :: rest) :
    parcelsLeft (·.inHand.isSome) (dealParcel (applyMark n) s p) = rest := by
  refine parcelsLeft_rest h rfl fun q hq => ?_
  show (applyMark n s p).parcels[q].inHand.isSome = _
  rw [applyMark_inHand, if_neg hq]

theorem markNext_cons {rest : List ParcelNo} (h : parcelsLeft (·.inHand.isSome) s = p :: rest) :
    markNext n s = stageOn .figures (decide (rest ≠ [])) (p.val + 1) (applyMark n s p) :=
  dealNext_place h rfl (applyMark_left h)

theorem again_markNext (h : AtCount .marks n s) :
    again (max 1 (parcelsLeft (·.inHand.isSome) s).length) .markApplication s
      = .next (toStage .figures ((parcelsLeft (·.inHand.isSome) s).foldl (applyMark n) s)) := by
  have each := again_dealNext (stands := AtCount .marks n) (next := .figures)
    (act := dealParcel (applyMark n)) (fun _ => exec_marks) (fun s p rest hs hl => ⟨?_, applyMark_left hl⟩) s h
  · rw [each]
    exact congrArg _ (foldl_counted (fun g n s x => applyMark_atPlace g n s _ x) (fun _ _ => rfl) _ s)
  · refine atCount_of_leaves hs ?_ ?_ ?_
    · show (applyMark n s p).ee.pass = _
      rw [applyMark_ee]
    · show (applyMark n s p).ee.snapshot = _
      rw [applyMark_ee]
    · exact atPlace_leavesDue _ _ (applyMark_leavesDue n p)

/-- From the first parcel on, the parcels left are all that the stage does not pass over. -/
theorem parcelsLeft_all {takes : ParcelRec → Bool} (h : s.ee.visited = 0) :
    parcelsLeft takes s = [0, 1, 2, 3, 4, 5, 6, 7].filter fun p : ParcelNo => takes s.parcels[p] := by
  refine List.filter_congr fun p _ => ?_
  rw [h, decide_eq_true (Nat.zero_le _), Bool.true_and]

/-- The marks applied one after another leave none in hand. -/
theorem foldl_applyMark_inHand (l : List ParcelNo) (s : State) (q : ParcelNo) :
    (l.foldl (applyMark n) s).parcels[q].inHand = if q ∈ l then none else s.parcels[q].inHand := by
  induction l generalizing s with
  | nil => rfl
  | cons p rest ih =>
    rw [List.foldl_cons, ih, applyMark_inHand]
    by_cases hq : q = p
    · simp [hq]
    · simp [hq]

/-! ### Stage 7 -/

theorem carryOut_get_ne (d : Int) (h : q ≠ p) : (carryOut p d s).parcels[q] = s.parcels[q] := by
  unfold carryOut
  split
  · rfl
  · exact setPlace_get_ne _ _ h
  · rw [queueAlert_parcels]
  · rw [queueAlert_parcels]

theorem toleranceStep_get_ne (excursive : Bool) (d : Int) (h : q ≠ p) :
    (toleranceStep p excursive d s).parcels[q] = s.parcels[q] := by
  unfold toleranceStep
  dsimp only
  split
  · rw [latch, carryOut_get_ne _ h, queueAlert_parcels, driveAlertN_parcels, State.putParcel, setPlace_get_ne _ _ h]
    exact setPlace_get_ne _ _ h
  · exact setPlace_get_ne _ _ h

theorem closeParcel_get_ne (d : Int) (whileHeld : Bool) (h : q ≠ p) :
    (closeParcel p d whileHeld s).parcels[q] = s.parcels[q] := by
  rw [closeParcel, queueAlert_parcels]
  exact setPlace_get_ne _ _ h

/-- Stage 7 for one parcel leaves every other parcel's record. -/
theorem evaluateParcel_get_ne (h : q ≠ p) : (evaluateParcel s p).parcels[q] = s.parcels[q] := by
  have marked (x : ParcelRec) (f : Figures) : (keepEvaluated p f (s.putParcel p x)).parcels[q] = s.parcels[q] :=
    setPlace_get_ne _ _ h
  unfold evaluateParcel
  split
  · unfold evaluateActive
    dsimp only
    split
    · rw [closeParcel_get_ne _ _ h, toleranceStep_get_ne _ _ h, marked]
    · rw [toleranceStep_get_ne _ _ h, marked]
  · split
    · exact closeParcel_get_ne _ _ h
    · rfl
  · rfl

theorem toStage_eq_stageOn (next : Stage) : toStage next s = stageOn next false 0 s := rfl

theorem evaluateParcel_passed (h : s.parcels[p].evaluates = false) : evaluateParcel s p = s := by
  simp only [ParcelRec.evaluates, Bool.or_eq_false_iff, decide_eq_false_iff_not, Bool.and_eq_false_iff] at h
  obtain ⟨hactive, hheld⟩ := h
  unfold evaluateParcel
  split
  · next ha _ => exact absurd ha hactive
  · next hh =>
    split
    · next hclosing =>
      rcases hheld with h | h
      · exact absurd hh h
      · exact absurd hclosing (h ▸ nofun)
    · rfl
  · rfl

theorem evaluateParcel_left {rest : List ParcelNo} (h : parcelsLeft ParcelRec.evaluates s = p :: rest) :
    parcelsLeft ParcelRec.evaluates (dealParcel evaluateParcel s p) = rest :=
  parcelsLeft_rest h rfl fun _ hq => congrArg _ (evaluateParcel_get_ne hq)

theorem evaluateNext_cons {rest : List ParcelNo} (h : parcelsLeft ParcelRec.evaluates s = p :: rest) :
    evaluateNext s = stageOn .publication (decide (rest ≠ [])) (p.val + 1) (evaluateParcel s p) :=
  dealNext_place h rfl (evaluateParcel_left h)

theorem again_evaluateNext (stage : s.ee.pass = .running .figures) (calm : Calm s) :
    again (max 1 (parcelsLeft ParcelRec.evaluates s).length) .figureEvaluation s
      = .next (toStage .publication ((parcelsLeft ParcelRec.evaluates s).foldl evaluateParcel s)) := by
  have each := again_dealNext (stands := fun s => s.ee.pass = .running .figures ∧ Calm s) (next := .publication)
    (act := dealParcel evaluateParcel) (fun _ hs => exec_figures hs.1 hs.2)
    (fun s p rest hs hl => ⟨?_, evaluateParcel_left hl⟩) s ⟨stage, calm⟩
  · rw [each]
    exact congrArg _ (foldl_counted (fun g n s x => evaluateParcel_atPlace g n s x) (fun _ _ => rfl) _ s)
  · obtain ⟨v, ee⟩ := evaluateParcel_ee (s := s) p
    refine ⟨?_, (atPlace_leavesDue _ _ (evaluateParcel_leavesDue p)).calm hs.2⟩
    show (evaluateParcel s p).ee.pass = _
    rw [ee]
    exact hs.1

end Sys2Proof.Laws
end

section
/-! PROOFS. The marks and the figures, parcel by parcel. -/

namespace Sys2Proof.Proofs

open Machine Safety Laws

/-- Settles O40: the marks in hand one by one, and all of them. -/
theorem marksAppliedInOrder : Obligations.MarksAppliedInOrder := by
  refine ⟨fun s n stage held calm => ?_, fun n s p => applyMark_none, fun n s p m hm hrev => ?_⟩
  · intro left
    have hat : AtCount .marks n s := ⟨stage, held, calm⟩
    have hleft : left = parcelsLeft (·.inHand.isSome) s := rfl
    refine ⟨fun hnone => ?_, fun p rest hl => ?_, fun hfirst => ?_⟩
    · rw [exec_marks hat]
      exact congrArg _ (dealNext_none hnone)
    · rw [exec_marks hat, markNext_cons hl]
    · intro t
      have all : left.foldl (applyMark n) s = t := by
        rw [hleft, parcelsLeft_all hfirst]
        refine foldl_filter_takes (takes := fun (s : State) (p : ParcelNo) => s.parcels[p].inHand.isSome) (by decide)
          (fun s p h => applyMark_none (by simpa using h)) (fun s p q hq => ?_) s
        rw [applyMark_inHand, if_neg hq]
      refine ⟨?_, fun p => ?_⟩
      · rw [hleft, again_markNext hat, ← hleft, all, toStage_eq_stageOn]
      · rw [foldl_applyMark_inHand, if_pos (by decide +revert)]
  · intro gone
    rw [applyMark_outdated hm hrev]
    refine ⟨fun hk => ?_, fun hk => ?_⟩
    · rw [refuseRevision, hk]
      rfl
    · rcases hk with hk | hk <;> rw [refuseRevision, hk] <;> rfl

/-- Settles O43: stage 7 parcel by parcel, and what it does with one by its state. -/
theorem figuresEvaluatedByState : Obligations.FiguresEvaluatedByState := by
  refine ⟨fun s stage calm => ?_, fun s p => ?_⟩
  · intro left
    have hleft : left = parcelsLeft ParcelRec.evaluates s := by
      refine List.filter_congr fun p _ => ?_
      simp [ParcelRec.evaluates, Bool.decide_and, Bool.decide_or]
    refine ⟨fun hnone => ?_, fun p rest hl => ?_, fun hfirst => ?_⟩
    · rw [exec_figures stage calm]
      exact congrArg _ (dealNext_none (hleft ▸ hnone))
    · rw [exec_figures stage calm, evaluateNext_cons (hleft ▸ hl)]
    · have all : left.foldl evaluateParcel s = [0, 1, 2, 3, 4, 5, 6, 7].foldl evaluateParcel s := by
        rw [hleft, parcelsLeft_all hfirst]
        refine foldl_filter_takes (takes := fun (s : State) (p : ParcelNo) => s.parcels[p].evaluates) (by decide)
          (fun s p h => evaluateParcel_passed h) (fun s p q hq => ?_) s
        rw [evaluateParcel_get_ne hq]
      rw [hleft, again_evaluateNext stage calm, ← hleft, all, toStage_eq_stageOn]
  · intro r closed
    refine ⟨fun hidle => ?_, fun hheld hopen => ?_, fun hheld hclosing => ?_, fun c hactive hc => ?_⟩
    · refine evaluateParcel_passed ?_
      rcases hidle with h | h | h <;> (rw [ParcelRec.evaluates, show s.parcels[p].state = _ from h]; rfl)
    · refine evaluateParcel_passed ?_
      rw [ParcelRec.evaluates, show s.parcels[p].state = _ from hheld, show s.parcels[p].closing = _ from hopen]
      rfl
    · have closes : evaluateParcel s p = closeParcel p r.published.figures.d true s := by
        unfold evaluateParcel
        rw [show s.parcels[p].state = _ from hheld]
        exact if_pos hclosing
      rw [closes, closeParcel, Bool.or_true]
      rfl
    · intro sum e t
      have evaluates : evaluateParcel s p = if r.closing then closeParcel p e.figures.d false t else t := by
        unfold evaluateParcel
        rw [show s.parcels[p].state = _ from hactive, show s.parcels[p].decl.current = _ from hc]
        rfl
      refine ⟨fun hopen => ?_, fun hclosing => ?_⟩
      · rw [evaluates, if_neg (by simp [hopen])]
      · rw [evaluates, if_pos hclosing, closeParcel, Bool.or_false]
        rfl

end Sys2Proof.Proofs
end

section
/-! SUPPORT. The decisions on hand-over copies, by what a copy holds (R36, R37). -/

namespace Sys2Proof.Laws

open Machine Safety

variable {s t : State}

/-! ### Meters -/

/-- A meter's record without its current declaration and its hand-over copy: gone but for a newer staged copy. -/
theorem removeMeter_eq (r : MeterRec) : removeMeter r s = match r.decl.staged with
    | some newer => s.putMeter ⟨r.key, ⟨none, some newer, none⟩, none⟩
    | none => s.dropMeter r.key := by
  unfold removeMeter Decls.removed
  cases r.decl.staged <;> rfl

theorem refuseMeter_eq (r : MeterRec) (c : Copy MeterDecl) (why : RejectReason) :
    refuseMeter r c why s = queueAlert .planReject (.meter r.key) ((c.rev.toNat + 256 * rejectCode why : Nat) : Int)
      (if r.decl.current.isSome ∨ r.decl.staged.isSome then
        s.putMeter { r with decl := { r.decl with handOver := none } } else s.dropMeter r.key) := by
  unfold refuseMeter planReject
  simp only [Decls.holdsOther, Bool.or_eq_true, Decls.refused]

theorem factorOk_iff {n : Nat} : factorOk n = true ↔ 95000 ≤ n ∧ n ≤ 105000 := by
  simp [factorOk]

/-- A removal of a meter is refused where the meter is declared and a term names it (R62). -/
theorem meterRefusal_removal {r : MeterRec} {d : MeterDecl} (h : d.remove = true) :
    meterRefusal s r d = if r.decl.current.isSome ∧ termsOfMeter s r.key ≠ [] then some .inUse else none := by
  rw [meterRefusal, if_pos h]
  simp

theorem termsOfMeter_ne_nil {k : Key} :
    termsOfMeter s k ≠ [] ↔ ∃ q : TermPos, ∃ t, s.terms[q].term = some t ∧ t.meter = k := by
  simp only [List.ne_nil_iff_length_pos, List.length_pos_iff_exists_mem, mem_termsOfMeter]
  exact exists_comm

section MeterCopy

variable {r : MeterRec} {c : Copy MeterDecl} (hc : r.decl.handOver = some c)

include hc

theorem decideMeter_refused {why : RejectReason} (h : meterRefusal s r c.contents = some why) :
    decideMeter s r = refuseMeter r c why s := by
  unfold decideMeter
  simp only [hc, h]

theorem decideMeter_removed (h : meterRefusal s r c.contents = none) (hremove : c.contents.remove = true) :
    decideMeter s r = removeMeter r s := by
  unfold decideMeter
  simp only [hc, h, hremove, if_true]

theorem decideMeter_accepted (h : meterRefusal s r c.contents = none) (hkeep : c.contents.remove = false) :
    decideMeter s r = s.putMeter
      { r with decl := r.decl.accepted c, work := some (meterAccepted r.work c.contents.factor) } := by
  unfold decideMeter
  simp only [hc, h, hkeep, Bool.false_eq_true, if_false]

end MeterCopy

/-! ### Tanks -/

theorem removeTank_eq (r : TankRec) : removeTank r s = match r.decl.staged with
    | some newer => s.putTank ⟨r.key, ⟨none, some newer, none⟩, none⟩
    | none => s.dropTank r.key := by
  unfold removeTank Decls.removed
  cases r.decl.staged <;> rfl

theorem refuseTank_eq (r : TankRec) (c : Copy TankDecl) (why : RejectReason) :
    refuseTank r c why s = queueAlert .planReject (.tank r.key) ((c.rev.toNat + 256 * rejectCode why : Nat) : Int)
      (if r.decl.current.isSome ∨ r.decl.staged.isSome then
        s.putTank { r with decl := { r.decl with handOver := none } } else s.dropTank r.key) := by
  unfold refuseTank planReject
  simp only [Decls.holdsOther, Bool.or_eq_true, Decls.refused]

theorem assignedOpened_iff {p : Option ParcelNo} : assignedOpened s p = true ↔ ∃ q, p = some q ∧
    (s.parcels[q].state = .active ∨ s.parcels[q].state = .held ∨ s.parcels[q].state = .closed) := by
  cases p with
  | none => simp [assignedOpened]
  | some q => exact (opened_iff _).trans ⟨fun h => ⟨q, rfl, h⟩, fun ⟨_, e, h⟩ => by cases e; exact h⟩

theorem sideOfCode_none {n : Nat} (h : 2 ≤ n) : sideOfCode n = none := by
  obtain ⟨m, rfl⟩ := Nat.exists_eq_add_of_le' h
  rfl

theorem sideOfCode_code (side : Side) : sideOfCode (match side with | .ship => 0 | .shore => 1) = some side := by
  cases side <;> rfl

theorem assignmentOfCode_none {n : Nat} (h : 8 ≤ n) (hn : n ≠ 15) : assignmentOfCode n = none := by
  exact (if_neg hn).trans (dif_neg (by omega))

theorem assignmentOfCode_code (p : Option ParcelNo) :
    assignmentOfCode (match p with | some p => p.val | none => 15) = some p := by
  cases p with
  | none => rfl
  | some p =>
    have hp : p.val ≠ noParcelCode := by
      have := p.isLt
      rw [noParcelCode]
      omega
    exact (if_neg hp).trans (dif_pos p.isLt)

/-- A tank's copy without REMOVE, of a side and an assignment, is refused or accepted by the protection (R43, R44). -/
theorem decideTank_declared {r : TankRec} {c : Copy TankDecl} {side : Side} {parcel : Option ParcelNo}
    (hc : r.decl.handOver = some c) (hkeep : c.contents.remove = false) (hside : sideOfCode c.contents.side = some side)
    (hparcel : assignmentOfCode c.contents.parcel = some parcel) : decideTank s r
      = if tankProtected s r.work side parcel then refuseTank r c .protectedParcel s
        else s.putTank { r with decl := r.decl.accepted c, work := some (tankAccepted r.work side parcel) } := by
  unfold decideTank
  simp only [hc, hkeep, Bool.false_eq_true, if_false, hside, hparcel]

theorem decideTank_out_of_range {r : TankRec} {c : Copy TankDecl} (hc : r.decl.handOver = some c)
    (hkeep : c.contents.remove = false)
    (h : sideOfCode c.contents.side = none ∨ assignmentOfCode c.contents.parcel = none) :
    decideTank s r = refuseTank r c .range s := by
  unfold decideTank
  simp only [hc, hkeep, Bool.false_eq_true, if_false]
  split
  · next hs hp => rcases h with h | h <;> simp [h] at hs hp
  · rfl

theorem decideTank_removal {r : TankRec} {c : Copy TankDecl} (hc : r.decl.handOver = some c)
    (hremove : c.contents.remove = true) : decideTank s r
      = if tankRemovalBarred s r.work then refuseTank r c .protectedParcel s else removeTank r s := by
  unfold decideTank
  simp only [hc, hremove, if_true]

theorem tankProtected_iff {w : TankWork} {side : Side} {parcel : Option ParcelNo} :
    tankProtected s (some w) side parcel = true
      ↔ (assignedOpened s w.parcel = true ∧ (parcel ≠ w.parcel ∨ side ≠ w.side))
        ∨ (assignedOpened s parcel = true ∧ parcel ≠ w.parcel) := by
  simp [tankProtected]

/-! ### Route terms -/

theorem meterDeclared_iff {k : Key} :
    meterDeclared s k = true ↔ ∃ r, s.meter? k = some r ∧ r.decl.current.isSome = true := by
  unfold meterDeclared
  cases s.meter? k <;> simp

/-- A code of a literal. -/
def literalCode (l : Literal) : LiteralCode := ⟨l.station.val, if l.needOpen then 0 else 1, l.valve⟩

theorem literalOfCode_iff {c : LiteralCode} {l : Literal} : literalOfCode c = some l ↔ c = literalCode l := by
  constructor
  · intro h
    unfold literalOfCode at h
    split at h
    · split at h
      · next heq => cases h; cases c; simp_all [literalCode]
      · next heq => cases h; cases c; simp_all [literalCode]
      · cases h
    · cases h
  · rintro rfl
    obtain ⟨station, valve, needOpen⟩ := l
    unfold literalOfCode literalCode
    rw [dif_pos station.isLt]
    cases needOpen <;> rfl

theorem literalsOfCodes_iff {cs : List LiteralCode} {ls : List Literal} :
    literalsOfCodes cs = some ls ↔ cs = ls.map literalCode := by
  induction cs generalizing ls with
  | nil => cases ls <;> simp [literalsOfCodes]
  | cons c cs ih =>
    cases ls with
    | nil =>
      rw [literalsOfCodes]
      split <;> simp
    | cons l ls =>
      rw [List.map_cons, List.cons.injEq, ← literalOfCode_iff, ← ih, literalsOfCodes]
      split
      · next hx hxs => simp [hx, hxs]
      · next hnone =>
        simp only [reduceCtorEq, false_iff, not_and]
        exact fun hx hxs => hnone _ _ hx hxs

/-- The term a copy codes, field by field (R70, check 1). -/
theorem termOfDecl_iff {d : TermDecl} {term : Term} : termOfDecl d = some term ↔
    d.parcel = term.parcel.val ∧ d.meterStation = term.meter.station.val ∧ d.meterIndex = term.meter.index
      ∧ d.count ≤ 4 ∧ d.literals = term.literals.map literalCode := by
  obtain ⟨⟨station, index⟩, parcel, literals⟩ := term
  constructor
  · intro h
    unfold termOfDecl at h
    split at h
    · split at h
      · split at h
        · next hcount =>
          split at h
          · next hl =>
            cases h
            exact ⟨rfl, rfl, rfl, hcount, literalsOfCodes_iff.1 hl⟩
          · cases h
        · cases h
      · cases h
    · cases h
  · rintro ⟨hparcel, hstation, hindex, hcount, hliterals⟩
    have hl := literalsOfCodes_iff.2 hliterals
    obtain ⟨dstation, dindex, dparcel, dcount, dliterals⟩ := d
    dsimp only at hparcel hstation hindex hcount hl
    subst hparcel hstation hindex
    unfold termOfDecl
    simp only [parcel.isLt, station.isLt, hcount, hl, if_true, dif_pos]

theorem decideTerm_none {q : TermPos} {c : Copy TermDecl} (hc : s.terms[q].decl.handOver = some c)
    (h : c.contents.parcel = 15) : decideTerm s q = s.applyTerm q c none := by
  unfold decideTerm
  rw [hc]
  exact if_pos h

theorem decideTerm_out_of_range {q : TermPos} {c : Copy TermDecl} (hc : s.terms[q].decl.handOver = some c)
    (h : c.contents.parcel ≠ 15) (hterm : termOfDecl c.contents = none) : decideTerm s q = refuseTerm q c .range s := by
  unfold decideTerm
  rw [hc]
  exact (if_neg h).trans (by rw [hterm])

/-- A term in range is judged by its meter, then by the places of the valve table (R70, checks 2 and 3). -/
theorem decideTerm_in_range {q : TermPos} {c : Copy TermDecl} {term : Term} (hc : s.terms[q].decl.handOver = some c)
    (h : c.contents.parcel ≠ 15) (hterm : termOfDecl c.contents = some term) : decideTerm s q
      = if meterDeclared s term.meter then
          if (namedStations (termsWith s q term)).length ≤ maxValves then s.applyTerm q c (some term)
          else refuseTerm q c .capacity s
        else refuseTerm q c .unknownReference s := by
  unfold decideTerm
  rw [hc]
  exact (if_neg h).trans (by rw [hterm])

theorem mem_namedStations {a : Station} {l : List Term} :
    a ∈ namedStations l ↔ ∃ t ∈ l, ∃ x ∈ t.literals, x.station = a := by
  simp [namedStations, termNames, List.mem_filter, List.mem_finRange]

/-- An entry of the valve table brought into line is the one that stood, or a new one (R67). -/
theorem mem_alignValves {e : ValveEntry} (he : e ∈ (alignValves s).valves) :
    e = (s.valve? e.station).getD (ValveEntry.created e.station) := by
  obtain ⟨a, -, rfl⟩ := List.mem_map.1 he
  have hstation : ((s.valve? a).getD (ValveEntry.created a)).station = a := by
    cases found : s.valve? a with
    | none => rfl
    | some e =>
      have hkey : valveOrd e = a.val := findRec_ord found
      exact Fin.ext hkey
  rw [hstation]

end Sys2Proof.Laws
end

section
/-! PROOFS. The decisions on the hand-over copies of meters, tanks and route terms. -/

namespace Sys2Proof.Proofs

open Machine Safety Laws

/-- Settles O30: a removal by the terms that name the meter, a declaration by its factor. -/
theorem meterCopyDecision : Obligations.MeterCopyDecision := by
  intro s r c hc removed refused named
  refine ⟨fun hremove hcurrent hnamed => ?_, fun hremove hfree => ?_, fun hkeep hfactor => ?_,
    fun hkeep hlow hhigh => ?_⟩
  · refine (decideMeter_refused hc (why := .inUse) ?_).trans (refuseMeter_eq _ _ _)
    rw [meterRefusal_removal hremove, if_pos ⟨hcurrent, termsOfMeter_ne_nil.2 hnamed⟩]
  · have free : ¬ (r.decl.current.isSome = true ∧ termsOfMeter s r.key ≠ []) := by
      rcases hfree with h | h
      · simp [h]
      · exact fun hboth => h (termsOfMeter_ne_nil.1 hboth.2)
    refine (decideMeter_removed hc ?_ hremove).trans (removeMeter_eq r)
    rw [meterRefusal_removal hremove, if_neg free]
  · have bad : ¬ factorOk c.contents.factor = true := fun h => by
      obtain ⟨hlow, hhigh⟩ := factorOk_iff.1 h
      omega
    refine (decideMeter_refused hc (why := .range) ?_).trans (refuseMeter_eq _ _ _)
    rw [meterRefusal, if_neg (by simp [hkeep]), if_neg bad]
  · rw [decideMeter_accepted hc ?_ hkeep]
    · cases r.work <;> rfl
    · rw [meterRefusal, if_neg (by simp [hkeep]), if_pos (factorOk_iff.2 ⟨hlow, hhigh⟩)]

/-- Settles O31: a removal by the protection, a declaration by its range and then by the protection. -/
theorem tankCopyDecision : Obligations.TankCopyDecision := by
  intro s r c hc removed refused accepted opened
  have hopened (p : Option ParcelNo) : opened p ↔ assignedOpened s p = true := assignedOpened_iff.symm
  have protect : refuseTank r c .protectedParcel s = refused 3 := refuseTank_eq _ _ _
  refine ⟨fun hremove => ⟨fun w hw ho => ?_, fun hfree => ?_⟩, fun hkeep hrange => ?_,
    fun side parcel hkeep hside hparcel => ?_⟩
  · rw [decideTank_removal hc hremove, hw]
    exact (if_pos ((hopened _).1 ho)).trans protect
  · have free : ¬ tankRemovalBarred s r.work = true := by
      cases hw : r.work with
      | none => exact nofun
      | some w => exact fun h => hfree w hw ((hopened _).2 h)
    rw [decideTank_removal hc hremove, if_neg free]
    exact removeTank_eq r
  · rw [decideTank_out_of_range hc hkeep (hrange.imp sideOfCode_none fun h => assignmentOfCode_none h.1 h.2)]
    exact refuseTank_eq _ _ _
  · have decided := decideTank_declared (s := s) hc hkeep ((congrArg _ hside).trans (sideOfCode_code side))
      ((congrArg _ hparcel).trans (assignmentOfCode_code parcel))
    refine ⟨fun hw ho => ?_, fun hw ho => ?_, fun w hw => ?_⟩
    · rw [decided, hw]
      exact (if_pos ((hopened _).1 ho)).trans protect
    · rw [decided, hw]
      exact if_neg (fun h => ho ((hopened _).2 h))
    · intro barred
      have hbarred : barred ↔ tankProtected s (some w) side parcel = true := by
        rw [tankProtected_iff, ← hopened, ← hopened]
      rw [decided, hw]
      refine ⟨fun hb => ?_, fun hb heq => ?_, fun hb hne => ?_⟩
      · exact (if_pos (hbarred.1 hb)).trans protect
      · rw [if_neg (fun h => hb (hbarred.2 h)), tankAccepted, if_pos heq.symm]
        rfl
      · rw [if_neg (fun h => hb (hbarred.2 h)), tankAccepted, if_neg (Ne.symm hne)]
        rfl

/-- Settles O33: the checks of a term's copy in their order, and the valve table brought into line. -/
theorem termCopyDecision : Obligations.TermCopyDecision := by
  refine ⟨fun s q c hc => ?_, fun d term => termOfDecl_iff, fun s a => ⟨?_, fun e he ha => ?_⟩⟩
  · intro refused applied known
    refine ⟨fun hnone => decideTerm_none hc hnone,
      fun hsome hterm => decideTerm_out_of_range hc hsome hterm, fun term hsome hterm => ?_⟩
    intro stations
    have decided := decideTerm_in_range hc hsome hterm
    refine ⟨fun hunknown => ?_, fun hknown hmany => ?_, fun hknown hfew => ?_⟩
    · rw [decided, if_neg (fun h => hunknown (meterDeclared_iff.1 h))]
      rfl
    · rw [decided, if_pos (meterDeclared_iff.2 hknown)]
      exact if_neg (Nat.not_le.2 hmany)
    · rw [decided, if_pos (meterDeclared_iff.2 hknown)]
      exact if_pos hfew
  · rw [show (alignValves s).valves.map (·.station) = namedStations (heldTerms s) from alignValves_named s,
      mem_namedStations]
    simp only [mem_heldTerms]
    exact ⟨fun ⟨t, ⟨q, hq⟩, h⟩ => ⟨q, t, hq, h⟩, fun ⟨q, t, hq, h⟩ => ⟨t, ⟨q, hq⟩, h⟩⟩
  · have he' := mem_alignValves he
    rw [ha] at he'
    exact ⟨fun old hold => he'.trans (by rw [hold]; rfl), fun hnone => he'.trans (by rw [hnone]; rfl)⟩

end Sys2Proof.Proofs
end

section
/-! SUPPORT. Stage 1 offers every hand-over copy once: a decision leaves no copy in its own record and every other
record's as it stood (R35, R37). -/

namespace Sys2Proof.Laws

open Machine Safety

variable {s t : State}

/-! ### A record decided on in its table -/

section Decided

variable {α : Type} {ord : α → Nat} {handed : α → Bool} {k : Nat} {l l' : List α}

/-- A table whose record of a key was decided on: the record is gone, or stands with no copy at hand. -/
def DecidedAt (ord : α → Nat) (handed : α → Bool) (k : Nat) (l l' : List α) : Prop :=
  l' = dropRec ord k l ∨ ∃ x, l' = putRec ord x l ∧ ord x = k ∧ handed x = false

theorem DecidedAt.rising (h : DecidedAt ord handed k l l') (hl : keysRising ord l = true) :
    keysRising ord l' = true := by
  rcases h with rfl | ⟨x, rfl, -, -⟩
  · exact keysRising_dropRec k hl
  · exact keysRising_putRec x hl

/-- The records with copies at hand are those that had one, but for the one decided on. -/
theorem DecidedAt.filter_map {β : Type} [DecidableEq β] {f : α → β} {r : α} (h : DecidedAt ord handed (ord r) l l')
    (hl : keysRising ord l = true) (hr : r ∈ l) (hf : ∀ x y, f x = f y ↔ ord x = ord y) :
    (l'.filter handed).map f = ((l.filter handed).map f).filter fun o => decide (o ≠ f r) := by
  rw [List.filter_map, List.filter_filter]
  rcases h with rfl | ⟨x, rfl, hk, hx⟩
  · rw [dropRec, List.filter_filter]
    refine congrArg _ (List.filter_congr fun y _ => ?_)
    by_cases h : ord y = ord r <;> simp [hf, h]
  · rw [putRec_eq_map hl (hk ▸ findRec_of_mem hl hr), List.filter_map, List.map_map]
    have kept (y : α) : f (if ord y = ord x then x else y) = f y := by
      split
      · next h => exact (hf _ _).2 h.symm
      · rfl
    rw [show (f ∘ fun y => if ord y = ord x then x else y) = f from funext kept]
    refine congrArg _ (List.filter_congr fun y _ => ?_)
    by_cases h : ord y = ord r <;> simp [hf, hk, h, hx]

end Decided

theorem decideMeter_table {r : MeterRec} (h : r.decl.handed = true) :
    DecidedAt meterOrd (·.decl.handed) (keyCode r.key) s.meters (decideMeter s r).meters := by
  obtain ⟨c, hc⟩ := Option.isSome_iff_exists.1 h
  unfold decideMeter
  rw [hc]
  dsimp only
  split
  · rw [refuseMeter, planReject, queueAlert_meters]
    split
    · exact .inr ⟨_, rfl, rfl, rfl⟩
    · exact .inl rfl
  · split
    · rw [removeMeter]
      split
      · exact .inr ⟨_, rfl, rfl, rfl⟩
      · exact .inl rfl
    · exact .inr ⟨_, rfl, rfl, rfl⟩

theorem decideTank_table {r : TankRec} (h : r.decl.handed = true) :
    DecidedAt tankOrd (·.decl.handed) (keyCode r.key) s.tanks (decideTank s r).tanks := by
  obtain ⟨c, hc⟩ := Option.isSome_iff_exists.1 h
  have refused (why : RejectReason) :
      DecidedAt tankOrd (·.decl.handed) (keyCode r.key) s.tanks (refuseTank r c why s).tanks := by
    rw [refuseTank, planReject, queueAlert_tanks]
    split
    · exact .inr ⟨_, rfl, rfl, rfl⟩
    · exact .inl rfl
  unfold decideTank
  rw [hc]
  dsimp only
  split
  · split
    · exact refused _
    · rw [removeTank]
      split
      · exact .inr ⟨_, rfl, rfl, rfl⟩
      · exact .inl rfl
  · split
    · split
      · exact refused _
      · exact .inr ⟨_, rfl, rfl, rfl⟩
    · exact refused _

/-! ### What a decision leaves alone -/

/-- The tables that a decision on a meter or tank leaves alone, and those that one on a parcel or term does. -/
theorem decideMeter_leaves (r : MeterRec) : (decideMeter s r).tanks = s.tanks
    ∧ (decideMeter s r).parcels = s.parcels ∧ (decideMeter s r).terms = s.terms := by
  unfold decideMeter refuseMeter removeMeter planReject
  split
  · exact ⟨rfl, rfl, rfl⟩
  · split
    · rw [queueAlert_tanks, queueAlert_parcels, queueAlert_terms]
      split <;> exact ⟨rfl, rfl, rfl⟩
    · split
      · split <;> exact ⟨rfl, rfl, rfl⟩
      · exact ⟨rfl, rfl, rfl⟩

theorem decideTank_leaves (r : TankRec) : (decideTank s r).meters = s.meters
    ∧ (decideTank s r).parcels = s.parcels ∧ (decideTank s r).terms = s.terms := by
  have refused (c : Copy TankDecl) (why : RejectReason) : (refuseTank r c why s).meters = s.meters
      ∧ (refuseTank r c why s).parcels = s.parcels ∧ (refuseTank r c why s).terms = s.terms := by
    rw [refuseTank, planReject, queueAlert_meters, queueAlert_parcels, queueAlert_terms]
    split <;> exact ⟨rfl, rfl, rfl⟩
  unfold decideTank
  split
  · exact ⟨rfl, rfl, rfl⟩
  · split
    · split
      · exact refused _ _
      · rw [removeTank]
        split <;> exact ⟨rfl, rfl, rfl⟩
    · split
      · split
        · exact refused _ _
        · exact ⟨rfl, rfl, rfl⟩
      · exact refused _ _

theorem decideParcel_leaves (p : ParcelNo) : (decideParcel s p).meters = s.meters
    ∧ (decideParcel s p).tanks = s.tanks ∧ (decideParcel s p).terms = s.terms := by
  unfold decideParcel
  split
  · exact ⟨rfl, rfl, rfl⟩
  · split
    · simp [refuseParcel, planReject]
    · exact ⟨rfl, rfl, rfl⟩

theorem decideTerm_leaves (q : TermPos) : (decideTerm s q).meters = s.meters
    ∧ (decideTerm s q).tanks = s.tanks ∧ (decideTerm s q).parcels = s.parcels := by
  have refused (c : Copy TermDecl) (why : RejectReason) : (refuseTerm q c why s).meters = s.meters
      ∧ (refuseTerm q c why s).tanks = s.tanks ∧ (refuseTerm q c why s).parcels = s.parcels := by
    simp [refuseTerm, planReject]
  unfold decideTerm
  split
  · exact ⟨rfl, rfl, rfl⟩
  · split
    · exact ⟨rfl, rfl, rfl⟩
    · split
      · exact refused _ _
      · split
        · split
          · exact ⟨rfl, rfl, rfl⟩
          · exact refused _ _
        · exact refused _ _

/-- A parcel decided on holds no copy at hand, and every other parcel what it held. -/
theorem decideParcel_handed (p q : ParcelNo) :
    (decideParcel s p).parcels[q].decl.handed = (s.parcels[q].decl.handed && decide (q ≠ p)) := by
  have put (x : ParcelRec) (hx : x.decl.handed = false) :
      (setPlace s.parcels p x)[q].decl.handed = (s.parcels[q].decl.handed && decide (q ≠ p)) := by
    rw [setPlace_get]
    by_cases h : q = p
    · rw [if_pos h, hx, decide_eq_false (not_not.2 h), Bool.and_false]
    · rw [if_neg h, decide_eq_true h, Bool.and_true]
  unfold decideParcel
  split
  · next h =>
    by_cases hq : q = p
    · rw [hq, Decls.handed, h]
      rfl
    · rw [decide_eq_true hq, Bool.and_true]
  · split
    · rw [refuseParcel, planReject, queueAlert_parcels]
      exact put _ rfl
    · exact put _ rfl

theorem decideTerm_handed (p q : TermPos) :
    (decideTerm s p).terms[q].decl.handed = (s.terms[q].decl.handed && decide (q ≠ p)) := by
  have put (x : TermRec) (hx : x.decl.handed = false) :
      (setPlace s.terms p x)[q].decl.handed = (s.terms[q].decl.handed && decide (q ≠ p)) := by
    rw [setPlace_get]
    by_cases h : q = p
    · rw [if_pos h, hx, decide_eq_false (not_not.2 h), Bool.and_false]
    · rw [if_neg h, decide_eq_true h, Bool.and_true]
  have refused (c : Copy TermDecl) (why : RejectReason) : (refuseTerm p c why s).terms[q].decl.handed
      = (s.terms[q].decl.handed && decide (q ≠ p)) := by
    rw [refuseTerm, planReject, queueAlert_terms]
    exact put _ rfl
  unfold decideTerm
  split
  · next h =>
    by_cases hq : q = p
    · rw [hq, Decls.handed, h]
      rfl
    · rw [decide_eq_true hq, Bool.and_true]
  · split
    · exact put _ rfl
    · split
      · exact refused _ _
      · split
        · split
          · exact put _ rfl
          · exact refused _ _
        · exact refused _ _

/-! ### The copies left to offer -/

/-- What stage 1 stands on while it offers copies: its place, nothing due, and tables in key order. -/
structure Offering (s : State) : Prop where
  stage : s.ee.pass = .running .handOver
  calm : Calm s
  meters : keysRising meterOrd s.meters = true
  tanks : keysRising tankOrd s.tanks = true

theorem decideOffer_meter (hs : keysRising meterOrd s.meters = true) {r : MeterRec} (hr : r ∈ s.meters) :
    decideOffer s (.meter r.key) = decideMeter s r := by
  have found : s.meter? r.key = some r := findRec_of_mem hs hr
  show (s.meter? r.key).elim s (decideMeter s) = _
  rw [found]
  rfl

theorem decideOffer_tank (hs : keysRising tankOrd s.tanks = true) {r : TankRec} (hr : r ∈ s.tanks) :
    decideOffer s (.tank r.key) = decideTank s r := by
  have found : s.tank? r.key = some r := findRec_of_mem hs hr
  show (s.tank? r.key).elim s (decideTank s) = _
  rw [found]
  rfl

theorem mem_offersLeft {o : Offer} : o ∈ offersLeft s ↔ match o with
    | .meter k => ∃ r ∈ s.meters, r.key = k ∧ r.decl.handed = true
    | .tank k => ∃ r ∈ s.tanks, r.key = k ∧ r.decl.handed = true
    | .parcel p => s.parcels[p].decl.handed = true
    | .term q => s.terms[q].decl.handed = true := by
  cases o <;> simp [offersLeft, and_comm, and_left_comm]

/-- No copy is offered twice: the keys of a table, the parcels and the positions are all different. -/
theorem offersLeft_nodup (h : Offering s) : (offersLeft s).Nodup := by
  have keys {α : Type} {ord : α → Nat} {handed : α → Bool} {f : α → Offer} {l : List α} (hl : keysRising ord l = true)
      (hf : ∀ x y, f x = f y → ord x = ord y) : ((l.filter handed).map f).Nodup := by
    refine List.Pairwise.map f (fun x y (hlt : ord x < ord y) heq => ?_)
      (((keysRising_iff _).1 hl).filter handed)
    exact hlt.ne (hf x y heq)
  have places {n : Nat} {handed : Fin n → Bool} {f : Fin n → Offer} (hf : Function.Injective f) :
      (((List.finRange n).filter handed).map f).Nodup := ((List.nodup_finRange n).filter _).map hf
  have parcels : Function.Injective Offer.parcel := fun _ _ h => Offer.parcel.inj h
  have terms : Function.Injective Offer.term := fun _ _ h => Offer.term.inj h
  unfold offersLeft
  rw [List.nodup_append, List.nodup_append, List.nodup_append]
  refine ⟨⟨⟨keys h.meters fun x y e => congrArg keyCode (Offer.meter.inj e),
    keys h.tanks fun x y e => congrArg keyCode (Offer.tank.inj e), ?_⟩, places parcels, ?_⟩, places terms, ?_⟩
  · simp only [List.mem_map]
    rintro a ⟨_, -, rfl⟩ b ⟨_, -, rfl⟩
    exact nofun
  · simp only [List.mem_append, List.mem_map]
    rintro a (⟨_, -, rfl⟩ | ⟨_, -, rfl⟩) b ⟨_, -, rfl⟩ <;> exact nofun
  · simp only [List.mem_append, List.mem_map]
    rintro a ((⟨_, -, rfl⟩ | ⟨_, -, rfl⟩) | ⟨_, -, rfl⟩) b ⟨_, -, rfl⟩ <;> exact nofun

theorem filter_map_keeps {α : Type} (f : α → Offer) (o : Offer) (hf : ∀ x, f x ≠ o) (l : List α) :
    (l.map f).filter (fun x => decide (x ≠ o)) = l.map f := by
  rw [List.filter_eq_self]
  intro x hx
  obtain ⟨y, -, rfl⟩ := List.mem_map.1 hx
  exact decide_eq_true (hf y)

theorem filter_places {n : Nat} {f : Fin n → Offer} {handed handed' : Fin n → Bool} {p : Fin n}
    (hf : Function.Injective f) (h : ∀ q, handed' q = (handed q && decide (q ≠ p))) :
    ((List.finRange n).filter handed').map f
      = (((List.finRange n).filter handed).map f).filter fun x => decide (x ≠ f p) := by
  rw [List.filter_map, List.filter_filter]
  refine congrArg _ (List.filter_congr fun q _ => ?_)
  rw [h, Bool.and_comm]
  exact congrArg (· && _) (decide_eq_decide.2 (hf.ne_iff).symm)

/-- A decision takes the one copy from those left to offer. -/
theorem offersLeft_decided {o : Offer} (h : Offering s) (ho : o ∈ offersLeft s) :
    offersLeft (decideOffer s o) = (offersLeft s).filter fun x => decide (x ≠ o) := by
  have tanks (o : Offer) (h : ∀ k, Offer.tank k ≠ o) (l : List TankRec) :=
    filter_map_keeps (fun r : TankRec => Offer.tank r.key) o (fun r => h r.key) l
  have meters (o : Offer) (h : ∀ k, Offer.meter k ≠ o) (l : List MeterRec) :=
    filter_map_keeps (fun r : MeterRec => Offer.meter r.key) o (fun r => h r.key) l
  unfold offersLeft
  simp only [List.filter_append]
  cases o with
  | meter k =>
    obtain ⟨r, hr, rfl, hhanded⟩ := mem_offersLeft.1 ho
    obtain ⟨htanks, hparcels, hterms⟩ := decideMeter_leaves (s := s) r
    rw [decideOffer_meter h.meters hr, htanks, hparcels, hterms, tanks (.meter r.key) nofun,
      filter_map_keeps .parcel (.meter r.key) nofun, filter_map_keeps .term (.meter r.key) nofun,
      (decideMeter_table hhanded).filter_map (f := fun r : MeterRec => Offer.meter r.key) h.meters hr
        fun x y => (Offer.meter.injEq _ _ ▸ keyCode_eq_iff.symm)]
  | tank k =>
    obtain ⟨r, hr, rfl, hhanded⟩ := mem_offersLeft.1 ho
    obtain ⟨hmeters, hparcels, hterms⟩ := decideTank_leaves (s := s) r
    rw [decideOffer_tank h.tanks hr, hmeters, hparcels, hterms, meters (.tank r.key) nofun,
      filter_map_keeps .parcel (.tank r.key) nofun, filter_map_keeps .term (.tank r.key) nofun,
      (decideTank_table hhanded).filter_map (f := fun r : TankRec => Offer.tank r.key) h.tanks hr
        fun x y => (Offer.tank.injEq _ _ ▸ keyCode_eq_iff.symm)]
  | parcel p =>
    obtain ⟨hmeters, htanks, hterms⟩ := decideParcel_leaves (s := s) p
    rw [show decideOffer s (.parcel p) = decideParcel s p from rfl, hmeters, htanks, hterms, meters (.parcel p) nofun,
      tanks (.parcel p) nofun, filter_map_keeps .term (.parcel p) nofun,
      filter_places (f := Offer.parcel) (fun _ _ => Offer.parcel.inj) (decideParcel_handed p)]
  | term q =>
    obtain ⟨hmeters, htanks, hparcels⟩ := decideTerm_leaves (s := s) q
    rw [show decideOffer s (.term q) = decideTerm s q from rfl, hmeters, htanks, hparcels, meters (.term q) nofun,
      tanks (.term q) nofun, filter_map_keeps .parcel (.term q) nofun,
      filter_places (f := Offer.term) (fun _ _ => Offer.term.inj) (decideTerm_handed q)]

theorem offersLeft_rest {o : Offer} {rest : List Offer} (h : Offering s) (hl : offersLeft s = o :: rest) :
    offersLeft (decideOffer s o) = rest := by
  have nodup := offersLeft_nodup h
  rw [hl] at nodup
  obtain ⟨hnew, -⟩ := List.nodup_cons.1 nodup
  rw [offersLeft_decided h (by simp [hl]), hl, List.filter_cons_of_neg (by simp), List.filter_eq_self]
  exact fun x hx => decide_eq_true fun e => hnew (e ▸ hx)

/-- The tables that stage 1 works on stay in key order. -/
theorem offering_decided {o : Offer} (h : Offering s) (ho : o ∈ offersLeft s) : Offering (decideOffer s o) := by
  refine ⟨(congrArg _ (decideOffer_ee o)).trans h.stage, (decideOffer_leavesDue o).calm h.calm, ?_, ?_⟩
  · cases o with
    | meter k =>
      obtain ⟨r, hr, rfl, hhanded⟩ := mem_offersLeft.1 ho
      rw [decideOffer_meter h.meters hr]
      exact (decideMeter_table hhanded).rising h.meters
    | tank k =>
      obtain ⟨r, hr, rfl, -⟩ := mem_offersLeft.1 ho
      obtain ⟨hmeters, -⟩ := decideTank_leaves (s := s) r
      rw [decideOffer_tank h.tanks hr, hmeters]
      exact h.meters
    | parcel p =>
      obtain ⟨hmeters, -⟩ := decideParcel_leaves (s := s) p
      exact (congrArg _ hmeters).trans h.meters
    | term q =>
      obtain ⟨hmeters, -⟩ := decideTerm_leaves (s := s) q
      exact (congrArg _ hmeters).trans h.meters
  · cases o with
    | meter k =>
      obtain ⟨r, hr, rfl, -⟩ := mem_offersLeft.1 ho
      obtain ⟨htanks, -⟩ := decideMeter_leaves (s := s) r
      rw [decideOffer_meter h.meters hr, htanks]
      exact h.tanks
    | tank k =>
      obtain ⟨r, hr, rfl, hhanded⟩ := mem_offersLeft.1 ho
      rw [decideOffer_tank h.tanks hr]
      exact (decideTank_table hhanded).rising h.tanks
    | parcel p =>
      obtain ⟨-, htanks, -⟩ := decideParcel_leaves (s := s) p
      exact (congrArg _ htanks).trans h.tanks
    | term q =>
      obtain ⟨-, htanks, -⟩ := decideTerm_leaves (s := s) q
      exact (congrArg _ htanks).trans h.tanks

/-- By as many decisions as there are copies none is left. -/
theorem offersLeft_foldl (h : Offering s) : offersLeft ((offersLeft s).foldl decideOffer s) = [] := by
  generalize hl : offersLeft s = l
  induction l generalizing s with
  | nil => exact hl
  | cons o rest ih => exact ih (offering_decided h (by simp [hl])) (offersLeft_rest h hl)

/-- No copy is left to offer where no record holds one. -/
theorem offersLeft_eq_nil_iff : offersLeft s = [] ↔ (∀ r ∈ s.meters, r.decl.handOver = none)
    ∧ (∀ r ∈ s.tanks, r.decl.handOver = none) ∧ (∀ p : ParcelNo, s.parcels[p].decl.handOver = none)
    ∧ ∀ q : TermPos, s.terms[q].decl.handOver = none := by
  simp [offersLeft, Decls.handed]

end Sys2Proof.Laws
end

section
/-! PROOFS. Stage 1, copy by copy. -/

namespace Sys2Proof.Proofs

open Machine Safety Laws

/-- Settles O29: each copy is decided once, by the record it stands in, and the last of them ends the stage. -/
theorem handOverDecidesEveryCopy : Obligations.HandOverDecidesEveryCopy := by
  intro s stage calm tables offers ended
  obtain ⟨⟨htanks, -⟩, ⟨hmeters, -⟩, -⟩ := tables
  have offering : Offering s := ⟨stage, calm, hmeters, htanks⟩
  have exec_offer (s : State) (h : Offering s) : exec .handOver s = .next (offerCopy s) := exec_handOver h.stage h.calm
  refine ⟨fun r hr => decideOffer_meter hmeters hr, fun r hr => decideOffer_tank htanks hr, fun _ => rfl, fun _ => rfl,
    fun hnone => ?_, fun o hl => ?_, fun o next rest hl => ?_, ?_⟩
  · rw [exec_offer s offering]
    exact congrArg _ (dealNext_none hnone)
  · rw [exec_offer s offering]
    exact congrArg _ ((dealNext_cons hl (offersLeft_rest offering hl)).trans (if_pos rfl))
  · rw [exec_offer s offering]
    exact congrArg _ ((dealNext_cons hl (offersLeft_rest offering hl)).trans (if_neg nofun))
  · intro t
    have deals := again_dealNext (stands := Offering) (next := .snapshot) exec_offer
      (fun s o rest h hl => ⟨offering_decided h (by simp [hl]), offersLeft_rest h hl⟩) s offering
    exact ⟨deals, offersLeft_eq_nil_iff.1 (offersLeft_foldl offering)⟩

end Sys2Proof.Proofs
end

section
/-! SUPPORT. What becomes of an arriving declaration, by its class (R28 to R33). -/

namespace Sys2Proof.Laws

open Machine Safety

variable {f : Frame} {a : Station} {s : State}

/-- The class of a declaration for a record that holds a copy (R30 to R33). -/
theorem classify_known {α : Type} {same : α → α → Bool} {d : Decls α} {c known : Copy α}
    (h : d.newestKnown = some known) : classify same d c
      = if newerThan c.rev d.current && newerThan c.rev d.handOver && newerThan c.rev d.staged then .stage
        else if c.rev = known.rev then (if same known.contents c.contents then .ignore else .clash) else .ignore := by
  unfold classify
  simp only [h]

/-- An outcome that goes by the class of a declaration goes by its revision and contents. -/
theorem arrives_of_classify {α : Type} {same : α → α → Bool} {alike : α → α → Prop} {d : Decls α} {c : Copy α}
    {outcome staged ignored clashed : Host.Outcome State Fault Refusal} (hsame : ∀ x y, same x y = true ↔ alike x y)
    (hstage : classify same d c = .stage → outcome = staged)
    (hignore : classify same d c = .ignore → outcome = ignored)
    (hclash : classify same d c = .clash → outcome = clashed) :
    Arrives alike d c outcome staged ignored clashed := by
  refine ⟨fun hnone => hstage (by rw [classify, hnone]), fun known hknown => ?_⟩
  intro ahead
  have hahead : (newerThan c.rev d.current && newerThan c.rev d.handOver && newerThan c.rev d.staged) = true
      ↔ ahead := by
    rw [Bool.and_eq_true, Bool.and_eq_true, and_assoc]
  refine ⟨fun h => hstage ?_, fun h hrev halike => hignore ?_, fun h hrev hunlike => hclash ?_, fun h hrev => hignore ?_⟩
  · rw [classify_known hknown, if_pos (hahead.2 h)]
  · rw [classify_known hknown, if_neg (hahead.not.2 h), if_pos hrev, if_pos ((hsame _ _).2 halike)]
  · rw [classify_known hknown, if_neg (hahead.not.2 h), if_pos hrev, if_neg ((hsame _ _).not.2 hunlike)]
  · rw [classify_known hknown, if_neg (hahead.not.2 h), if_neg hrev]

theorem sameMeter_iff (x y : MeterDecl) : sameMeter x y = true ↔ (x.remove = true ∧ y.remove = true) ∨ x = y := by
  simp [sameMeter]

theorem sameTank_iff (x y : TankDecl) : sameTank x y = true ↔ (x.remove = true ∧ y.remove = true) ∨ x = y := by
  simp [sameTank]

/-! ### The owners of the four declarations -/

theorem exec_dmeter_from (hf : From .dmeter f a s) :
    exec (.dmeter f) s = .next (arriveMeter f.payload a (heardFrom a s)) :=
  congrArg Host.Outcome.next (receive_settle_from (arriveMeter f.payload) hf)

theorem exec_dtank_from (hf : From .dtank f a s) :
    exec (.dtank f) s = .next (arriveTank f.payload a (heardFrom a s)) :=
  congrArg Host.Outcome.next (receive_settle_from (arriveTank f.payload) hf)

theorem exec_dparcel_from (hf : From .dparcel f a s) :
    exec (.dparcel f) s = .next (arriveParcel f.payload a (heardFrom a s)) :=
  congrArg Host.Outcome.next (receive_settle_from (arriveParcel f.payload) hf)

theorem exec_droute_from (hf : From .droute f a s) :
    exec (.droute f) s = .next (arriveTerm f.payload a (heardFrom a s)) :=
  congrArg Host.Outcome.next (receive_settle_from (arriveTerm f.payload) hf)

/-- A DMETER for a key without a record (R28, R29). -/
theorem arriveMeter_absent {p : List Byte} {k : Key} (hk : (decodeDMeter p).key = some k) (h : s.meter? k = none) :
    arriveMeter p a s = if (decodeDMeter p).copy.contents.remove then s
      else if maxMeters ≤ s.meters.length then planReject (.meter k) (decodeDMeter p).copy.rev .tableFull s
      else s.putMeter ⟨k, Decls.stagedOnly (decodeDMeter p).copy, none⟩ := by
  unfold arriveMeter
  simp only [hk, h]

theorem arriveTank_absent {p : List Byte} {k : Key} (hk : (decodeDTank p).key = some k) (h : s.tank? k = none) :
    arriveTank p a s = if (decodeDTank p).copy.contents.remove then s
      else if maxTanks ≤ s.tanks.length then planReject (.tank k) (decodeDTank p).copy.rev .tableFull s
      else s.putTank ⟨k, Decls.stagedOnly (decodeDTank p).copy, none⟩ := by
  unfold arriveTank
  simp only [hk, h]

/-- A declaration for a key, a parcel or a place with a record goes by its class. -/
theorem arriveMeter_known {p : List Byte} {k : Key} {r : MeterRec} (hk : (decodeDMeter p).key = some k)
    (h : s.meter? k = some r) :
    (classify sameMeter r.decl (decodeDMeter p).copy = .stage → arriveMeter p a s
        = s.putMeter { r with decl := r.decl.stage (decodeDMeter p).copy })
      ∧ (classify sameMeter r.decl (decodeDMeter p).copy = .ignore → arriveMeter p a s = s)
      ∧ (classify sameMeter r.decl (decodeDMeter p).copy = .clash → arriveMeter p a s
        = planClash (.meter k) (decodeDMeter p).copy.rev s) := by
  unfold arriveMeter
  simp only [hk, h]
  exact ⟨fun hc => by rw [hc], fun hc => by rw [hc], fun hc => by rw [hc]⟩

theorem arriveTank_known {p : List Byte} {k : Key} {r : TankRec} (hk : (decodeDTank p).key = some k)
    (h : s.tank? k = some r) :
    (classify sameTank r.decl (decodeDTank p).copy = .stage → arriveTank p a s
        = s.putTank { r with decl := r.decl.stage (decodeDTank p).copy })
      ∧ (classify sameTank r.decl (decodeDTank p).copy = .ignore → arriveTank p a s = s)
      ∧ (classify sameTank r.decl (decodeDTank p).copy = .clash → arriveTank p a s
        = planClash (.tank k) (decodeDTank p).copy.rev s) := by
  unfold arriveTank
  simp only [hk, h]
  exact ⟨fun hc => by rw [hc], fun hc => by rw [hc], fun hc => by rw [hc]⟩

theorem arriveParcel_named {p : List Byte} {q : ParcelNo} (hk : (decodeDParcel p).key = some q) :
    (classify sameParcel s.parcels[q].decl (decodeDParcel p).copy = .stage → arriveParcel p a s
        = s.putParcel q { s.parcels[q] with decl := s.parcels[q].decl.stage (decodeDParcel p).copy })
      ∧ (classify sameParcel s.parcels[q].decl (decodeDParcel p).copy = .ignore → arriveParcel p a s = s)
      ∧ (classify sameParcel s.parcels[q].decl (decodeDParcel p).copy = .clash → arriveParcel p a s
        = planClash (.parcel q) (decodeDParcel p).copy.rev s) := by
  unfold arriveParcel
  simp only [hk]
  exact ⟨fun hc => by rw [hc], fun hc => by rw [hc], fun hc => by rw [hc]⟩

theorem arriveTerm_named {p : List Byte} {q : TermPos} (hk : (decodeDRoute p).key = some q) :
    (classify sameTerm s.terms[q].decl (decodeDRoute p).copy = .stage → arriveTerm p a s
        = s.putTerm q { s.terms[q] with decl := s.terms[q].decl.stage (decodeDRoute p).copy })
      ∧ (classify sameTerm s.terms[q].decl (decodeDRoute p).copy = .ignore → arriveTerm p a s = s)
      ∧ (classify sameTerm s.terms[q].decl (decodeDRoute p).copy = .clash → arriveTerm p a s
        = planClash (.term q) (decodeDRoute p).copy.rev s) := by
  unfold arriveTerm
  simp only [hk]
  exact ⟨fun hc => by rw [hc], fun hc => by rw [hc], fun hc => by rw [hc]⟩

/-- The place a DROUTE names is one of 0..23 (R25). -/
theorem decodeDRoute_key (p : List Byte) (q : TermPos) : (decodeDRoute p).key = some q ↔ (byteAt p 0).toNat = q.val := by
  unfold decodeDRoute
  dsimp only
  split
  · simp [Fin.ext_iff]
  · next h => exact ⟨nofun, fun e => absurd (e ▸ q.isLt) h⟩

theorem decodeDRoute_no_key {p : List Byte} (h : 24 ≤ (byteAt p 0).toNat) : (decodeDRoute p).key = none :=
  dif_neg (Nat.not_lt.2 h)

theorem decodeDParcel_key (p : List Byte) :
    ∃ q : ParcelNo, (decodeDParcel p).key = some q ∧ q.val = (byteAt p 0).toNat % 8 := by
  refine ⟨_, rfl, ?_⟩
  simp [fieldOf]

end Sys2Proof.Laws
end

section
/-! PROOFS. Declarations at arrival. -/

namespace Sys2Proof.Proofs

open Machine Safety Laws

/-- Settles O17: a record staged, refused for want of a place, or judged by the class of the declaration. -/
theorem meterAndTankDeclarationsArrive : Obligations.MeterAndTankDeclarationsArrive := by
  refine ⟨fun f a s hf => ?_, fun f a s hf => ?_⟩
  · intro m h reported
    rw [exec_dmeter_from hf]
    refine ⟨fun hk => ?_, fun k hk => ⟨fun habsent => ?_, fun r found => ?_⟩⟩
    · unfold arriveMeter
      simp only [show (decodeDMeter f.payload).key = none from hk]
      rfl
    · rw [arriveMeter_absent (s := h) hk habsent]
      refine ⟨fun hremove => ?_, fun hkeep room => ?_, fun hkeep full => ?_⟩
      · exact congrArg _ (if_pos hremove)
      · exact congrArg _ ((if_neg (by rw [hkeep]; decide)).trans (if_neg (Nat.not_le.2 room)))
      · exact congrArg _ ((if_neg (by rw [hkeep]; decide)).trans (if_pos full))
    · obtain ⟨hstage, hignore, hclash⟩ := arriveMeter_known (s := h) (a := a) hk found
      exact arrives_of_classify sameMeter_iff (fun hc => congrArg _ (hstage hc)) (fun hc => congrArg _ (hignore hc))
        fun hc => congrArg _ (hclash hc)
  · intro m h reported
    rw [exec_dtank_from hf]
    refine ⟨fun hk => ?_, fun k hk => ⟨fun habsent => ?_, fun r found => ?_⟩⟩
    · unfold arriveTank
      simp only [show (decodeDTank f.payload).key = none from hk]
      rfl
    · rw [arriveTank_absent (s := h) hk habsent]
      refine ⟨fun hremove => ?_, fun hkeep room => ?_, fun hkeep full => ?_⟩
      · exact congrArg _ (if_pos hremove)
      · exact congrArg _ ((if_neg (by rw [hkeep]; decide)).trans (if_neg (Nat.not_le.2 room)))
      · exact congrArg _ ((if_neg (by rw [hkeep]; decide)).trans (if_pos full))
    · obtain ⟨hstage, hignore, hclash⟩ := arriveTank_known (s := h) (a := a) hk found
      exact arrives_of_classify sameTank_iff (fun hc => congrArg _ (hstage hc)) (fun hc => congrArg _ (hignore hc))
        fun hc => congrArg _ (hclash hc)

/-- Settles O18: a parcel's or position's record stands always, and the class of the declaration decides. -/
theorem parcelAndTermDeclarationsArrive : Obligations.ParcelAndTermDeclarationsArrive := by
  refine ⟨fun f a s hf => ?_, fun f a s hf => ?_⟩
  · intro m h
    obtain ⟨q, hk, hq⟩ := decodeDParcel_key f.payload
    obtain ⟨hstage, hignore, hclash⟩ := arriveParcel_named (s := h) (a := a) hk
    refine ⟨q, hk, hq, ?_⟩
    rw [exec_dparcel_from hf]
    exact arrives_of_classify (fun _ _ => decide_eq_true_iff) (fun hc => congrArg _ (hstage hc))
      (fun hc => congrArg _ (hignore hc)) fun hc => congrArg _ (hclash hc)
  · intro m h
    rw [exec_droute_from hf]
    refine ⟨fun hout => ?_, fun q hq => ?_⟩
    · unfold arriveTerm
      simp only [decodeDRoute_no_key hout]
      rfl
    · obtain ⟨hstage, hignore, hclash⟩ := arriveTerm_named (s := h) (a := a) ((decodeDRoute_key _ q).2 hq)
      exact arrives_of_classify (fun _ _ => decide_eq_true_iff) (fun hc => congrArg _ (hstage hc))
        (fun hc => congrArg _ (hignore hc)) fun hc => congrArg _ (hclash hc)

end Sys2Proof.Proofs
end

section
/-! SUPPORT. The commands that bring a received frame, said once for all of them: the receive side judges it, and its
owner takes a good one (R174, R175). -/

namespace Sys2Proof.Laws

open Machine Safety

variable {c : Instr} {k : FrameKind} {f : Frame} {a : Station} {s : State}

/-- What the owner of a frame kind does with a good frame: for a SUMMARY or ANNOUNCE its sender's role is taken first
(R168); an ANSWER or ALERT has no owner. -/
def ownerOf (k : FrameKind) (p : List Byte) (a : Station) (s : State) : State :=
  match k with
  | .gauge => takeGauge p a s
  | .meter => takeMeter p a s
  | .valve => takeValve p a s
  | .dmeter => arriveMeter p a s
  | .dparcel => arriveParcel p a s
  | .dtank => arriveTank p a s
  | .droute => arriveTerm p a s
  | .mark => arriveMark p a s
  | .summary => takeSummary p a (heardRole a (decodeSummary p).role s)
  | .announce => takeAnnounce p a (heardRole a (decodeAnnounce p).role s)
  | .query => takeQuery p a s
  | .answer => s
  | .alert => s
  | .cadence => takeCadence p a s

/-- A frame command is the receive side's work with the frame and the owner of its kind. -/
theorem exec_frame (h : frameOf c = some (k, f)) : exec c s = .next (receive k f (ownerOf k f.payload) (settle s)) := by
  cases c <;> cases h <;> rfl

theorem exec_frame_from (h : frameOf c = some (k, f)) (hf : From k f a s) :
    exec c s = .next (ownerOf k f.payload a (heardFrom a s)) := by
  rw [exec_frame h, receive_settle_from _ hf]

/-! ### The owners leave the freshness table alone -/

theorem enqueue_fresh (q : Query) : (enqueue q s).fresh = s.fresh := by
  unfold enqueue
  dsimp only
  split <;> simp

theorem takeQuery_fresh (p : List Byte) : (takeQuery p a s).fresh = s.fresh := by
  unfold takeQuery
  dsimp only
  split
  · rfl
  · split
    · rfl
    · split
      · rfl
      · split
        · rfl
        · exact enqueue_fresh _

theorem changeLimit_fresh (limit : Nat) : (changeLimit limit s).fresh = s.fresh := by
  unfold changeLimit withTransitions
  split
  · rfl
  · exact foldl_field (g := State.fresh) (fun a _ t => goStale_fresh t a) _

theorem takeCadence_fresh (p : List Byte) : (takeCadence p a s).fresh = s.fresh := by
  unfold takeCadence
  dsimp only
  split_ifs <;> simp [changeLimit_fresh]

theorem updateEntry_fresh (e : PeerEntry) (m : SummaryMsg) (role : Role) (state : ParcelState) :
    (updateEntry e m role state s).fresh = s.fresh := by
  unfold updateEntry compareEntry latchPeer
  dsimp only
  split
  · split
    · rw [queueAlert_fresh]
      rfl
    · rfl
  · rfl

theorem takeSummary_fresh (p : List Byte) : (takeSummary p a s).fresh = s.fresh := by
  unfold takeSummary
  dsimp only
  split
  · split
    · rfl
    · split
      · rfl
      · split
        · exact updateEntry_fresh _ _ _ _
        · split
          · exact updateEntry_fresh _ _ _ _
          · rfl
  · rfl

theorem takeGauge_fresh (p : List Byte) : (takeGauge p a s).fresh = s.fresh := by
  unfold takeGauge
  dsimp only
  split
  · rfl
  · split <;> rfl

theorem takeMeter_fresh (p : List Byte) : (takeMeter p a s).fresh = s.fresh := by
  unfold takeMeter
  dsimp only
  split
  · rfl
  · split
    · rfl
    · split
      · split <;> rfl
      · rfl

theorem takeValve_fresh (p : List Byte) : (takeValve p a s).fresh = s.fresh := by
  unfold takeValve
  dsimp only
  split
  · rfl
  · split <;> rfl

theorem arriveMeter_fresh (p : List Byte) : (arriveMeter p a s).fresh = s.fresh := by
  unfold arriveMeter
  dsimp only
  split
  · rfl
  · split
    · split
      · rfl
      · split <;> simp
    · split <;> simp

theorem arriveTank_fresh (p : List Byte) : (arriveTank p a s).fresh = s.fresh := by
  unfold arriveTank
  dsimp only
  split
  · rfl
  · split
    · split
      · rfl
      · split <;> simp
    · split <;> simp

theorem arriveParcel_fresh (p : List Byte) : (arriveParcel p a s).fresh = s.fresh := by
  unfold arriveParcel
  dsimp only
  split
  · rfl
  · split <;> simp

theorem arriveTerm_fresh (p : List Byte) : (arriveTerm p a s).fresh = s.fresh := by
  unfold arriveTerm
  dsimp only
  split
  · rfl
  · split <;> simp

theorem arriveMark_fresh (p : List Byte) : (arriveMark p a s).fresh = s.fresh := by
  unfold arriveMark
  dsimp only
  split <;> rfl

/-- The role that a frame's payload gives its sender (R168). -/
def roleHeard (k : FrameKind) (p : List Byte) : Option Role :=
  match k with
  | .summary => (decodeSummary p).role
  | .announce => (decodeAnnounce p).role
  | _ => none

/-- An owner changes the freshness table by the role heard alone. -/
theorem ownerOf_fresh (k : FrameKind) (p : List Byte) :
    (ownerOf k p a s).fresh = (heardRole a (roleHeard k p) s).fresh := by
  cases k with
  | gauge => exact takeGauge_fresh p
  | meter => exact takeMeter_fresh p
  | valve => exact takeValve_fresh p
  | dmeter => exact arriveMeter_fresh (a := a) p
  | dparcel => exact arriveParcel_fresh (a := a) p
  | dtank => exact arriveTank_fresh (a := a) p
  | droute => exact arriveTerm_fresh (a := a) p
  | mark => exact arriveMark_fresh (a := a) p
  | summary => exact takeSummary_fresh p
  | announce => rfl
  | query => exact takeQuery_fresh p
  | answer => rfl
  | alert => rfl
  | cadence => exact takeCadence_fresh (a := a) p

theorem heardRole_get_ne {b : Station} (role : Option Role) (h : b ≠ a) :
    (heardRole a role s).fresh[b] = s.fresh[b] := by
  cases role with
  | none => rfl
  | some r => exact setPlace_get_ne _ _ h

theorem heardRole_get_self (role : Option Role) : (heardRole a role s).fresh[a]
    = { s.fresh[a] with lastRole := match role with | some r => some r | none => s.fresh[a].lastRole } := by
  cases role with
  | none => rfl
  | some r => exact setPlace_get_self _ _ _

theorem heardFrom_get_self : (heardFrom a s).fresh[a] = { s.fresh[a] with age := 0 } := setPlace_get_self _ _ _

theorem heardFrom_get_ne {b : Station} (h : b ≠ a) : (heardFrom a s).fresh[b] = s.fresh[b] := setPlace_get_ne _ _ h

/-! ### The tests of a good frame (R174) -/

theorem kindOfCode_kindCode (k : FrameKind) : kindOfCode (kindCode k) = some k := by cases k <;> rfl

theorem kindCode_range (k : FrameKind) : 1 ≤ kindCode k ∧ kindCode k ≤ 14 := by cases k <;> decide

theorem kindOfCode_eq_some_iff {n : Nat} : kindOfCode n = some k ↔ kindCode k = n := by
  constructor
  · intro h
    unfold kindOfCode at h
    split at h <;> cases h <;> rfl
  · rintro rfl
    exact kindOfCode_kindCode k

theorem stationOf_eq_none_iff {x : BitVec 6} : stationOf x = none ↔ x.toNat = 63 := by
  have := x.isLt
  unfold stationOf
  split
  · simp only [reduceCtorEq, false_iff]
    omega
  · simp only [true_iff]
    omega

theorem stationOf_eq_some {x : BitVec 6} (h : x.toNat < 63) : stationOf x = some ⟨x.toNat, h⟩ := dif_pos h

theorem isGood_iff {r : RawFrame} : isGood r = true ↔ r.ending = 0x7F#7 ∧ r.len.toNat ≤ 16
    ∧ r.payload.length = r.len.toNat
    ∧ r.check = checkOf (coveredBits r.cls.toNat r.kind.toNat r.src.toNat r.len.toNat r.payload)
    ∧ r.src.toNat < 63 ∧ ∃ k, kindOfCode r.kind.toNat = some k ∧ lengthOk k r.len.toNat = true := by
  have hkind : (match kindOfCode r.kind.toNat with | some k => lengthOk k r.len.toNat | none => false) = true
      ↔ ∃ k, kindOfCode r.kind.toNat = some k ∧ lengthOk k r.len.toNat = true := by
    cases kindOfCode r.kind.toNat <;> simp
  rw [isGood]
  simp only [Bool.and_eq_true, decide_eq_true_iff, and_assoc]
  exact Iff.rfl.and (Iff.rfl.and (Iff.rfl.and (Iff.rfl.and (Iff.rfl.and hkind))))

/-- MUTE set by a clash, and ALERT_N with it (R135, R176). -/
theorem goMute_eq : goMute s
    = { s with bi := { s.bi with mute := true, tx := .idle, driven := none }, alertN := true } := by
  simp [goMute, driveAlertN, alertCondition]

theorem receives_eq_false (h : ¬ Receiving s) : receives s = false := by
  simpa [receives, Receiving] using h

end Sys2Proof.Laws
end

section
/-! PROOFS. The reception of frames, good and bad. -/

namespace Sys2Proof.Proofs

open Machine Safety Laws

/-- Settles O11: the sender is heard before the owner acts, and no owner sets another station's age. -/
theorem goodFramesAreHeard : Obligations.GoodFramesAreHeard := by
  refine ⟨fun c k f a s hc hf => ?_, fun f a s hf => exec_frame_from rfl hf, fun f a s hf => exec_frame_from rfl hf⟩
  refine ⟨_, exec_frame_from hc hf, ?_⟩
  rw [ownerOf_fresh, heardRole_get_self, heardFrom_get_self]
  refine ⟨rfl, fun b hb => ?_, fun hk => ?_, fun hk => ?_, fun hsummary hannounce => ?_⟩
  · rw [heardRole_get_ne _ hb, heardFrom_get_ne hb]
  · subst hk
    rfl
  · subst hk
    rfl
  · have hrole : roleHeard k f.payload = none := by
      cases k with
      | summary => exact absurd rfl hsummary
      | announce => exact absurd rfl hannounce
      | _ => rfl
    rw [hrole]

/-- Settles O12: the tests one by one; a frame that fails one is judged and no more. -/
theorem badFramesAreDiscarded : Obligations.BadFramesAreDiscarded := by
  refine ⟨fun r => ?_, fun r s hbad hr calm => ?_, fun c k f s hc hr calm hbad => ?_, fun c s hc calm hr => ?_⟩
  · rw [isGood_iff]
    refine Iff.rfl.and (Iff.rfl.and (Iff.rfl.and (Iff.rfl.and ?_)))
    simp only [kindOfCode_eq_some_iff]
    constructor
    · rintro ⟨hsrc, k, hk, hlength⟩
      obtain ⟨hlow, hhigh⟩ := kindCode_range k
      exact ⟨by omega, by omega, by omega, k, hk, hlength⟩
    · rintro ⟨-, -, hsrc, k, hk, hlength⟩
      exact ⟨by omega, k, hk, hlength⟩
  · show Host.Outcome.next (if receives (settle s) && !isGood r then judged (settle s) else settle s) = _
    rw [settle_calm calm, receives_of hr, hbad]
    rfl
  · rw [exec_frame hc, settle_calm calm]
    rcases hbad with h | h
    · exact congrArg _ (receive_length _ hr h)
    · exact congrArg _ (receive_source _ hr (stationOf_eq_none_iff.2 h))
  · cases hframe : frameOf c with
    | some x => rw [exec_frame (k := x.1) (f := x.2) hframe, settle_calm calm, receive_none _ hr]
    | none =>
      rw [hframe] at hc
      obtain ⟨r, rfl | rfl⟩ := hc.resolve_left nofun
      · show Host.Outcome.next (if receives (settle s) && !isGood r then judged (settle s) else settle s) = _
        rw [settle_calm calm, receives_eq_false hr]
        rfl
      · show Host.Outcome.next (if receives (settle s) && isClash r (settle s) then goMute (judged (settle s))
          else settle s) = _
        rw [settle_calm calm, receives_eq_false hr]
        rfl

/-- Settles O13: the clash of a frame judged at once, and of one of a kind with an owner. -/
theorem addressClashMutes : Obligations.AddressClashMutes := by
  refine ⟨fun r s hgood hsrc hr calm => ?_, fun c k f s hc calm hlength hsrc => ⟨fun hr => ?_, fun htx => ?_⟩⟩
  · show Host.Outcome.next (if receives (settle s) && isClash r (settle s) then goMute (judged (settle s))
      else settle s) = _
    have hclash : isClash r s = true := by rw [isClash, hgood, hsrc]; simp
    rw [settle_calm calm, receives_of hr, hclash, goMute_eq]
    rfl
  · have hsource : f.src.toNat < 63 := by
      have := s.sr.address.isLt
      omega
    rw [exec_frame hc, settle_calm calm, receive_clash _ hr hlength (stationOf_eq_some hsource) hsrc, goMute_eq]
    rfl
  · rw [exec_frame hc, settle_calm calm, receive_none]
    exact fun hr => htx hr.2

end Sys2Proof.Proofs
end

section
/-! SUPPORT. Peer frames, fresh-to-stale transitions and the zeros of the timers, each by the case that it meets. -/

namespace Sys2Proof.Laws

open Machine Safety

variable {f : Frame} {a : Station} {s : State}

/-! ### Peer frames (R146) -/

theorem peerOrd_eq_iff {e : PeerEntry} {p : ParcelNo} : peerOrd e = a.val * 8 + p.val ↔ e.peer = a ∧ e.parcel = p := by
  have hp := p.isLt
  have he := e.parcel.isLt
  simp only [peerOrd, Fin.ext_iff]
  omega

theorem takeSummary_unnamed {p : List Byte} (h : (decodeSummary p).role = none ∨ (decodeSummary p).state = none) :
    takeSummary p a s = s := by
  unfold takeSummary
  dsimp only
  split
  · next hrole hstate =>
    rcases h with h | h
    · exact absurd (hrole.symm.trans h) nofun
    · exact absurd (hstate.symm.trans h) nofun
  · rfl

section Summary

variable {p : List Byte} {role : Role} {state : ParcelState} (hrole : (decodeSummary p).role = some role)
  (hstate : (decodeSummary p).state = some state)

include hrole hstate

theorem takeSummary_vacant (h : state = .vacant) : takeSummary p a s
    = { s with peers := dropRec peerOrd (a.val * 8 + (decodeSummary p).parcel.val) s.peers } := by
  unfold takeSummary
  simp only [hrole, hstate, if_pos h]

theorem takeSummary_undeclared (h : state ≠ .vacant) (hv : s.parcels[(decodeSummary p).parcel].state = .vacant) :
    takeSummary p a s = s := by
  unfold takeSummary
  simp only [hrole, hstate, if_neg h, if_pos hv]

variable (h : state ≠ .vacant) (hv : s.parcels[(decodeSummary p).parcel].state ≠ .vacant)

include h hv

theorem takeSummary_known {e : PeerEntry} (he : s.peer? a (decodeSummary p).parcel = some e) :
    takeSummary p a s = updateEntry e (decodeSummary p) role state s := by
  unfold takeSummary
  simp only [hrole, hstate, if_neg h, if_neg hv, he]

theorem takeSummary_new (he : s.peer? a (decodeSummary p).parcel = none) (room : s.peers.length < maxPeers) :
    takeSummary p a s
      = updateEntry (PeerEntry.created a (decodeSummary p).parcel role state) (decodeSummary p) role state s := by
  unfold takeSummary
  simp only [hrole, hstate, if_neg h, if_neg hv, he, if_pos room]

theorem takeSummary_full (he : s.peer? a (decodeSummary p).parcel = none) (full : ¬ s.peers.length < maxPeers) :
    takeSummary p a s = s := by
  unfold takeSummary
  simp only [hrole, hstate, if_neg h, if_neg hv, he, if_neg full]

end Summary

/-! ### Stations that turn stale (R169, R170) -/

theorem withTransitions_eq (act : State → State) : withTransitions act s = (turnedStale s (act s)).foldl goStale (act s) := by
  unfold withTransitions turnedStale isStale
  refine congrArg (List.foldl goStale (act s)) (List.filter_congr fun a _ => ?_)
  rw [← decide_not]
  simp only [Nat.not_le]

/-- A CADENCE frame for this node's T2 that carries a stale limit puts it in force at once (R165). -/
theorem takeCadence_limit {p : List Byte} (htarget : (decodeCadence p).target = s.sr.address.val)
    (htimer : (decodeCadence p).timer = 2) (hlimit : (decodeCadence p).staleLimit ≠ 0) : takeCadence p a s
      = withTransitions (fun t => { t with ct := { t.ct with staleLimit := (decodeCadence p).staleLimit } })
          (s.mapTimer 2 fun x => x.cadence (decodeCadence p)) := by
  unfold takeCadence changeLimit
  simp only [htarget, htimer, hlimit, ne_eq, not_true_eq_false, if_false, if_true]
  rfl

/-- The weights of the kinds of reference, each read off again. -/
theorem staleWeights_bits (s : State) (a : Station) (n : Nat) :
    (((staleWeights s a + 16 * n) % 2 = 1 ↔ ∃ r ∈ s.tanks, r.key.station = a ∧ r.decl.current.isSome = true)
      ∧ ((staleWeights s a + 16 * n) / 2 % 2 = 1 ↔ ∃ r ∈ s.meters, r.key.station = a ∧ r.decl.current.isSome = true)
      ∧ ((staleWeights s a + 16 * n) / 4 % 2 = 1 ↔ ∃ e ∈ s.valves, e.station = a)
      ∧ ((staleWeights s a + 16 * n) / 8 % 2 = 1 ↔ ∃ e ∈ s.peers, e.peer = a))
      ∧ (staleWeights s a + 16 * n) / 16 = n := by
  have htank : (s.tanks.any fun r => decide (r.key.station = a) && r.decl.current.isSome) = true
      ↔ ∃ r ∈ s.tanks, r.key.station = a ∧ r.decl.current.isSome = true := by simp
  have hmeter : (s.meters.any fun r => decide (r.key.station = a) && r.decl.current.isSome) = true
      ↔ ∃ r ∈ s.meters, r.key.station = a ∧ r.decl.current.isSome = true := by simp
  have hvalve : (s.valves.any fun e => decide (e.station = a)) = true ↔ ∃ e ∈ s.valves, e.station = a := by simp
  have hpeer : (s.peers.any fun e => decide (e.peer = a)) = true ↔ ∃ e ∈ s.peers, e.peer = a := by simp
  rw [← htank, ← hmeter, ← hvalve, ← hpeer, staleWeights]
  generalize (s.tanks.any fun r => decide (r.key.station = a) && r.decl.current.isSome) = tank
  generalize (s.meters.any fun r => decide (r.key.station = a) && r.decl.current.isSome) = meter
  generalize (s.valves.any fun e => decide (e.station = a)) = valve
  generalize (s.peers.any fun e => decide (e.peer = a)) = peer
  split_ifs <;> simp_all <;> omega

/-- No alert where nothing references a station, and no entry of its to remove. -/
theorem goStale_unreferenced (h : staleWeights s a = 0) (hpeer : ¬ ∃ e ∈ s.peers, e.peer = a) : goStale s a = s := by
  have kept : s.peers.filter (fun e => decide (e.peer ≠ a)) = s.peers := by
    rw [List.filter_eq_self]
    exact fun e he => decide_eq_true fun h => hpeer ⟨e, he, h⟩
  unfold goStale
  simp only [if_pos h, kept]

theorem goStale_referenced (h : staleWeights s a ≠ 0) : goStale s a
    = { queueAlert .stale (.station a) ((staleWeights s a + 16 * lastRoleCode s a : Nat) : Int) s with
        peers := s.peers.filter fun e => decide (e.peer ≠ a) } := by
  unfold goStale
  simp only [if_neg h, queueAlert_peers]

/-! ### The zeros of the timers -/

theorem zeroEvent_due {i : TimerNo} (work : State → State) (h : s.ct.timers[i].zeroDue = true) :
    zeroEvent i work s = work (s.mapTimer i Timer.reload) := if_pos h

section Due

variable (told : s.told = none)

include told

theorem settleOwner_quiet : settleOwner s = s := by
  unfold settleOwner
  rw [told]

theorem exec_t0Zero (due : s.ct.timers[(0 : Fin 4)].zeroDue = true) :
    exec .t0Zero s = .next (countEvent 2 (requestPass (s.mapTimer 0 Timer.reload))) := by
  show Host.Outcome.next (zeroEvent 0 _ (settleOwner s)) = _
  rw [settleOwner_quiet told, zeroEvent_due _ due]

theorem exec_t1Zero (due : s.ct.timers[(1 : Fin 4)].zeroDue = true) :
    exec .t1Zero s = .next (countEvent 3 (requestRound (s.mapTimer 1 Timer.reload))) := by
  show Host.Outcome.next (zeroEvent 1 _ (settleOwner s)) = _
  rw [settleOwner_quiet told, zeroEvent_due _ due]

theorem exec_t2Zero (due : s.ct.timers[(2 : Fin 4)].zeroDue = true) :
    exec .t2Zero s = .next (sweep (s.mapTimer 2 Timer.reload)) := by
  show Host.Outcome.next (zeroEvent 2 _ (settleOwner s)) = _
  rw [settleOwner_quiet told, zeroEvent_due _ due]

theorem exec_t3Zero (due : s.ct.timers[(3 : Fin 4)].zeroDue = true) :
    exec .t3Zero s = .next (loadAnnounce (s.mapTimer 3 Timer.reload)) := by
  show Host.Outcome.next (zeroEvent 3 _ (settleOwner s)) = _
  rw [settleOwner_quiet told, zeroEvent_due _ due]

end Due

theorem requestPass_idle (h : s.ee.pass = .idle) : requestPass s = beginPass s := by
  unfold requestPass
  rw [h]

theorem requestPass_running (h : s.ee.pass ≠ .idle) : requestPass s
    = if s.ee.pending then { s with ee := { s.ee with overrun := true } }
      else { s with ee := { s.ee with pending := true } } := by
  unfold requestPass
  split
  · next hidle => exact absurd hidle h
  · rfl

/-! ### The search of a summary round (R142) -/

/-- The parcel that a search from a cursor is to find. -/
def FirstFrom (s : State) (cursor : Nat) (p : ParcelNo) : Prop := cursor ≤ p.val
  ∧ s.parcels[p].published.state ≠ .vacant
  ∧ ∀ q : ParcelNo, cursor ≤ q.val → q < p → s.parcels[q].published.state = .vacant

/-- The first number of which something holds. -/
theorem finRange_find?_first {n : Nat} {p : Fin n → Bool} {i : Fin n} (hi : p i = true)
    (hbefore : ∀ j : Fin n, j < i → p j = false) : (List.finRange n).find? p = some i := by
  rw [List.find?_eq_some_iff_getElem]
  refine ⟨hi, i.val, by simp, by simp, fun j hj => ?_⟩
  have hlength : j < (List.finRange n).length := by
    rw [List.length_finRange]
    exact hj.trans i.isLt
  rw [show (List.finRange n)[j]'hlength = (⟨j, hj.trans i.isLt⟩ : Fin n) by simp, hbefore _ hj]
  rfl

theorem findParcel_first {cursor : Nat} {p : ParcelNo} (h : FirstFrom s cursor p) : findParcel s cursor = some p := by
  obtain ⟨hp, hstate, hbefore⟩ := h
  refine finRange_find?_first (Bool.and_eq_true_iff.2 ⟨decide_eq_true hp, decide_eq_true hstate⟩) fun q hq => ?_
  rw [Bool.and_eq_false_iff]
  by_cases hcursor : cursor ≤ q.val
  · exact .inr (decide_eq_false (not_not.2 (hbefore q hcursor hq)))
  · exact .inl (decide_eq_false hcursor)

theorem findParcel_none {cursor : Nat} (h : ∀ q : ParcelNo, cursor ≤ q.val → s.parcels[q].published.state = .vacant) :
    findParcel s cursor = none := by
  rw [findParcel, List.find?_eq_none]
  intro q _ hq
  obtain ⟨hcursor, hstate⟩ := Bool.and_eq_true_iff.1 hq
  exact of_decide_eq_true hstate (h q (of_decide_eq_true hcursor))

/-- A frame loaded into an empty slot stands pending and is judged for an offer (R181, R182). -/
theorem loadSlot_empty {i : Fin 4} (x : TxFrame) (h : s.slots[i] = .empty) :
    loadSlot i x s = offer { s with slots := setPlace s.slots i (.pending x) } := by
  unfold loadSlot
  rw [h]
  rfl

theorem beginRound_none (h : ∀ q : ParcelNo, s.parcels[q].published.state = .vacant) :
    beginRound s = { s with round := ⟨false, 0, false⟩ } := by
  unfold beginRound
  rw [findParcel_none fun q _ => h q]

theorem beginRound_first {p : ParcelNo} (h : FirstFrom s 0 p) : beginRound s = loadSummary p false s := by
  unfold beginRound
  rw [findParcel_first h]

theorem loadSummary_empty (p : ParcelNo) (pending : Bool) (h : s.slots[(2 : Fin 4)] = .empty) :
    loadSummary p pending s = offer { s with
      round := ⟨true, p.val + 1, pending⟩
      slots := setPlace s.slots 2 (.pending ⟨.summary, summaryPayload s.sr.role p s.parcels[p]⟩) } :=
  loadSlot_empty (s := { s with round := ⟨true, p.val + 1, pending⟩ }) _ h

/-- An ANNOUNCE load that is taken clears the flags it takes over (R196). -/
theorem loadAnnounce_taken (h : takesLoad 3 s.slots[(3 : Fin 4)] = true) : loadAnnounce s = offer { s with
    aq := { s.aq with withheld := false }
    ee := { s.ee with overrun := false }
    slots := setPlace s.slots 3 (.pending ⟨.announce, announcePayload s
      (s.aq.withheld || replacedFlag s.slots[(3 : Fin 4)] 5) (s.ee.overrun || replacedFlag s.slots[(3 : Fin 4)] 6)⟩) } := by
  unfold loadAnnounce
  rw [if_pos h]
  exact if_pos h

end Sys2Proof.Laws
end

section
/-! PROOFS. Peer frames, stations that turn stale, and the zeros of the timers. -/

namespace Sys2Proof.Proofs

open Machine Safety Laws

/-- Settles O21: the cases of a SUMMARY in their order, and the entries that an ANNOUNCE removes. -/
theorem peerFrameCases : Obligations.PeerFrameCases := by
  refine ⟨fun f a s hf => ?_, fun f a s hf => ?_⟩
  · intro m h
    have executed : exec (.summaryFrame f) s = .next (takeSummary f.payload a h) := exec_frame_from rfl hf
    have peers : h.peers = s.peers := heardRole_peers _ _ _
    have parcels : h.parcels = s.parcels := heardRole_parcels _ _ _
    have entry : h.peer? a m.parcel = s.peer? a m.parcel := by rw [State.peer?, State.peer?, peers]
    rw [executed]
    refine ⟨fun hnone => congrArg _ (takeSummary_unnamed hnone), fun role state hrole hstate =>
      ⟨fun hvacant => ?_, fun hne hv => ?_, fun hne hv => ⟨fun e he => ?_, fun he room => ?_, fun he full => ?_⟩⟩⟩
    · rw [takeSummary_vacant hrole hstate hvacant, peers]
      refine congrArg (fun l => Host.Outcome.next { h with peers := l }) (List.filter_congr fun e _ => ?_)
      rw [bne, Bool.eq_iff_iff]
      simp [peerOrd_eq_iff, m, imp_iff_not_or]
    · exact congrArg _ (takeSummary_undeclared hrole hstate hne (parcels ▸ hv))
    · exact congrArg _ (takeSummary_known hrole hstate hne (parcels ▸ hv) (entry.trans he))
    · exact congrArg _ (takeSummary_new hrole hstate hne (parcels ▸ hv) (entry.trans he) (peers ▸ room))
    · exact congrArg _ (takeSummary_full hrole hstate hne (parcels ▸ hv) (entry.trans he)
        (Nat.not_lt.2 (peers ▸ full)))
  · intro m
    rw [exec_frame_from rfl hf]
    show Host.Outcome.next (takeAnnounce f.payload a _) = _
    rw [takeAnnounce, heardRole_peers]
    refine congrArg (fun l => Host.Outcome.next { heardRole a m.role (heardFrom a s) with peers := l })
      (List.filter_congr fun e _ => ?_)
    rw [← Bool.decide_and, ← decide_not]

/-- Settles O24: a change of limit, a sweep, and one station's turn. -/
theorem stationsTurnStale : Obligations.StationsTurnStale := by
  refine ⟨fun f a s c hf hc => ?_, fun s told due => ?_, fun s a => ?_⟩
  · intro m htarget htimer hlimit h limited
    rw [exec_cadence_from hf hc, takeCadence_limit (s := heardFrom a s) htarget htimer hlimit, withTransitions_eq]
  · intro h aged
    rw [exec_t2Zero told due, sweep, withTransitions_eq]
    rfl
  · intro tank meter valve peer without
    obtain ⟨⟨htank, hmeter, hvalve, hpeer⟩, hrole⟩ := staleWeights_bits s a (lastRoleCode s a)
    obtain ⟨⟨htank0, hmeter0, hvalve0, hpeer0⟩, hsmall⟩ := staleWeights_bits s a 0
    refine ⟨fun ⟨hnt, hnm, hnv, hnp⟩ => goStale_unreferenced ?_ hnp, fun hany =>
      ⟨_, goStale_referenced ?_, htank, hmeter, hvalve, hpeer, hrole.trans ?_⟩⟩
    · have := mt htank0.1 hnt
      have := mt hmeter0.1 hnm
      have := mt hvalve0.1 hnv
      have := mt hpeer0.1 hnp
      omega
    · intro hzero
      rw [hzero] at htank0 hmeter0 hvalve0 hpeer0
      rcases hany with h | h | h | h
      · exact absurd (htank0.2 h) (by decide)
      · exact absurd (hmeter0.2 h) (by decide)
      · exact absurd (hvalve0.2 h) (by decide)
      · exact absurd (hpeer0.2 h) (by decide)
    · unfold lastRoleCode
      rcases s.fresh[a].lastRole with _ | _ | _ | _ <;> rfl

/-- Settles O26: the reload of a timer, and a pass request by the engine's state. -/
theorem t0ZeroAsksForPass : Obligations.T0ZeroAsksForPass := by
  refine ⟨fun t => ⟨fun p hp => ?_, fun hp => ?_⟩, fun s told due => ?_⟩
  · rw [Timer.reload, hp]
    rfl
  · rw [Timer.reload, hp]
    rfl
  · intro z
    rw [exec_t0Zero told due]
    refine ⟨fun hidle => ?_, fun hrun hfree => ?_, fun hrun hpending => ?_⟩
    · rw [requestPass_idle (s := z) hidle]
      rfl
    · rw [requestPass_running (s := z) hrun, show z.ee.pending = false from hfree]
      rfl
    · rw [requestPass_running (s := z) hrun, show z.ee.pending = true from hpending]
      rfl

/-- Settles O28: a round begun or marked, and an ANNOUNCE built or not. -/
theorem t1AndT3ZerosLoadFrames : Obligations.T1AndT3ZerosLoadFrames := by
  refine ⟨fun s told due => ?_, fun s told due => ?_⟩
  · intro z
    rw [exec_t1Zero told due]
    refine ⟨fun hrun => ?_, fun hrest hnone => ?_, fun p hrest hslot hp hbefore => ?_⟩
    · rw [requestRound, show z.round.running = true from hrun]
      rfl
    · rw [requestRound, show z.round.running = false from hrest, if_neg Bool.false_ne_true,
        beginRound_none (s := z) hnone]
      rfl
    · rw [requestRound, show z.round.running = false from hrest, if_neg Bool.false_ne_true,
        beginRound_first (s := z) ⟨Nat.zero_le _, hp, fun q _ => hbefore q⟩, loadSummary_empty (s := z) p false hslot]
      rfl
  · intro z loaded
    rw [exec_t3Zero told due]
    refine ⟨fun hslot => ?_, fun old hslot => ?_, fun old hslot => ?_⟩
    · have hz : z.slots[(3 : Fin 4)] = .empty := hslot
      rw [loadAnnounce_taken (by rw [hz]; rfl), hz]
      simp only [replacedFlag, Bool.or_false]
      rfl
    · have hz : z.slots[(3 : Fin 4)] = .pending old := hslot
      rw [loadAnnounce_taken (by rw [hz]; rfl), hz]
      rfl
    · have hz : z.slots[(3 : Fin 4)] = .inFlight old := hslot
      rw [loadAnnounce, hz]
      rfl

end Sys2Proof.Proofs
end

section
/-! SUPPORT. The transmit side's moves and what the owner of a frame sent does next (R177 to R184). -/

namespace Sys2Proof.Laws

open Machine Safety

variable {s : State} {i : Fin 4} {f : TxFrame}

theorem settleTimed_calm (h : Calm s) : settleTimed s = s := by
  have settled : settleTimed (settleOwner s) = s := settle_calm h
  obtain ⟨told, -⟩ := h
  rwa [settleOwner_quiet told] at settled

theorem Slot.isPending_iff {x : Slot} : x.isPending = true ↔ ∃ f, x = .pending f := by
  cases x <;> simp [Slot.isPending]

theorem Slot.isInFlight_iff {x : Slot} : x.isInFlight = true ↔ ∃ f, x = .inFlight f := by
  cases x <;> simp [Slot.isInFlight]

theorem allSlots_eq : allSlots = List.finRange 4 := rfl

theorem lowestPending_first (h : s.slots[i] = .pending f) (hbefore : ∀ j : Fin 4, j < i → ∀ g, s.slots[j] ≠ .pending g) :
    lowestPending s.slots = some i := by
  rw [lowestPending, allSlots_eq]
  refine finRange_find?_first (Slot.isPending_iff.2 ⟨f, h⟩) fun j hj => ?_
  rw [Bool.eq_false_iff, ne_eq, Slot.isPending_iff]
  rintro ⟨g, hg⟩
  exact hbefore j hj g hg

section InFlight

variable (h : s.slots[i] = .inFlight f) (hother : ∀ j : Fin 4, j ≠ i → ∀ g, s.slots[j] ≠ .inFlight g)

include h hother

theorem inFlightSlot_one : inFlightSlot s.slots = some i := by
  rw [inFlightSlot, allSlots_eq]
  refine finRange_find?_first (Slot.isInFlight_iff.2 ⟨f, h⟩) fun j hj => ?_
  rw [Bool.eq_false_iff, ne_eq, Slot.isInFlight_iff]
  rintro ⟨g, hg⟩
  exact hother j hj.ne g hg

/-- The one frame in flight goes back to its slot (R183). -/
theorem returnFrame_one : returnFrame s = { s with slots := setPlace s.slots i (.pending f) } := by
  refine congrArg (fun v => { s with slots := v }) (vector_ext fun j => ?_)
  rw [mapPlaces_get, setPlace_get]
  split
  · next hj => rw [hj, h]; rfl
  · next hj =>
    cases hs : s.slots[j] with
    | inFlight g => exact absurd hs (hother j hj g)
    | empty => rfl
    | pending g => rfl

end InFlight

/-- No offer where the node is mute or in its stagger, or has nothing pending (R182). -/
theorem offer_nothing (h : s.bi.mute = true ∨ s.sr.stagger ≠ .ended ∨ ∀ (i : Fin 4) (f : TxFrame), s.slots[i] ≠ .pending f) :
    offer s = s := by
  rcases h with h | h | h
  · exact offer_mute _ h
  · exact offer_of_not_mayOffer (by simp [mayOffer, h])
  · have hnone : lowestPending s.slots = none := by
      rw [lowestPending_none]
      intro j
      rw [Bool.eq_false_iff, ne_eq, Slot.isPending_iff]
      rintro ⟨g, hg⟩
      exact h j g hg
    unfold offer
    rw [hnone]
    split <;> rfl

theorem offer_first (hidle : s.bi.busIdle = true) (htx : s.bi.tx = .idle) (hmute : s.bi.mute = false)
    (hstagger : s.sr.stagger = .ended) (h : s.slots[i] = .pending f)
    (hbefore : ∀ j : Fin 4, j < i → ∀ g, s.slots[j] ≠ .pending g) : offer s = { s with
      slots := setPlace s.slots i (.inFlight f)
      bi := ⟨false, true, .arbitrating, false, some (drivenFrame i.val f.kind s.sr.address.val f.payload)⟩ } := by
  have may : mayOffer s = true := by simp [mayOffer, hidle, htx, hmute, hstagger]
  unfold offer
  rw [if_pos may, lowestPending_first h hbefore]
  dsimp only
  rw [h, hmute]
  rfl

theorem exec_busIdle (calm : Calm s) : exec .busIdle s = .next (becomeIdle s) := by
  obtain ⟨told, -⟩ := id calm
  show Host.Outcome.next (settleOwner (becomeIdle (settleTimed s))) = _
  rw [settleTimed_calm calm, settleOwner_quiet]
  unfold becomeIdle
  split
  · rw [offer_told, told]
  · exact told

/-! ### The owners of a frame sent -/

theorem ownerTold_of_quiet (h : s.told = none) : settleOwner { s with told := some i } = ownerTold i s := by
  show ownerTold i { s with told := none } = _
  rw [← h]

theorem alertSent_last {head : AlertRec} (h : s.aq.records = [head]) :
    alertSent s = { s with aq := { s.aq with records := [] } } := by
  unfold alertSent
  rw [h]

theorem alertSent_next {head next : AlertRec} {rest : List AlertRec} (h : s.aq.records = head :: next :: rest) :
    alertSent s = loadSlot 0 (alertFrame next) { s with aq := { s.aq with records := next :: rest } } := by
  unfold alertSent
  rw [h]

theorem answerSent_part {b : AnswerBuild} {part : List Byte} (h : s.qq.build = some b) (hpart : b.parts[b.next]? = some part) :
    answerSent s = loadSlot 1 ⟨.answer, part⟩ { s with qq := ⟨s.qq.queries, some ⟨b.parts, b.next + 1⟩⟩ } := by
  unfold answerSent
  simp only [h, hpart]

theorem answerSent_whole {b : AnswerBuild} (h : s.qq.build = some b) (hnone : b.parts.length ≤ b.next) :
    answerSent s = freezeHead { s with qq := ⟨s.qq.queries.tail, none⟩ } := by
  unfold answerSent
  simp only [h, List.getElem?_eq_none hnone]

/-- The first part of an answer; there is always one (R191). -/
theorem answerParts_cons (s : State) (q : Query) : ∃ part others, answerParts s q = part :: others := by
  obtain ⟨hone, -⟩ := answerParts_length (s := s) q
  exact List.exists_cons_of_length_pos hone

theorem freezeHead_cons {q : Query} {rest : List Query} {part : List Byte} {others : List (List Byte)}
    (hq : s.qq.queries = q :: rest) (hparts : answerParts s q = part :: others) :
    freezeHead s = loadSlot 1 ⟨.answer, part⟩ { s with qq := { s.qq with build := some ⟨part :: others, 1⟩ } } := by
  unfold freezeHead
  simp only [hq, hparts]
  rfl

theorem searchOn_first {p : ParcelNo} (h : FirstFrom s s.round.cursor p) :
    searchOn s = loadSummary p s.round.pending s := by
  unfold searchOn
  rw [findParcel_first h]

theorem searchOn_none (h : ∀ q : ParcelNo, s.round.cursor ≤ q.val → s.parcels[q].published.state = .vacant) :
    searchOn s = if s.round.pending then beginRound s else { s with round := { s.round with running := false } } := by
  unfold searchOn
  rw [findParcel_none h]

/-! ### Queries (R190) -/

section Query

variable {p : List Byte} {a : Station} {kind : QueryKind} (htarget : (decodeQuery p).target = s.sr.address.val)
  (hkind : (decodeQuery p).kind = some kind)

theorem takeQuery_other (h : (decodeQuery p).target ≠ s.sr.address.val ∨ (decodeQuery p).kind = none) :
    takeQuery p a s = s := by
  unfold takeQuery
  dsimp only
  split
  · rfl
  · next htarget =>
    rw [h.resolve_left htarget]

include htarget hkind

theorem takeQuery_own : takeQuery p a s = if s.qq.queries.any fun x =>
      decide (x = ⟨a, kind, keptSubject kind (decodeQuery p).subject⟩) then s
    else if maxQueries ≤ s.qq.queries.length then s
    else enqueue ⟨a, kind, keptSubject kind (decodeQuery p).subject⟩ s := by
  unfold takeQuery
  simp only [htarget, hkind, ne_eq, not_true_eq_false, if_false]

end Query

theorem enqueue_empty {q : Query} (h : s.qq.queries = []) :
    enqueue q s = freezeHead { s with qq := { s.qq with queries := [q] } } := by
  unfold enqueue
  simp only [h, List.isEmpty_nil, if_true, List.nil_append]

end Sys2Proof.Laws
end

section
/-! PROOFS. The transmit state, the frame sent, and the queries queued. -/

namespace Sys2Proof.Proofs

open Machine Safety Laws

/-- Settles O50: each move by the state it needs, and the offer by the lowest pending slot. -/
theorem transmitStateMoves : Obligations.TransmitStateMoves := by
  intro s calm
  have settled : settle s = s := settle_calm calm
  refine ⟨fun htx hreceiving => ?_, fun hbusy => ?_, fun htx hidle => ?_, fun htx => ?_, fun i f hi hother =>
    ⟨fun htx => ?_, fun htx => ?_⟩⟩
  · intro idle
    have becomes : becomeIdle s = offer idle := if_pos ⟨htx, hreceiving⟩
    rw [exec_busIdle calm, becomes]
    refine ⟨fun h => congrArg _ (offer_nothing h), fun i f hmute hstagger hi hbefore => ?_⟩
    rw [offer_first (s := idle) rfl htx hmute hstagger hi hbefore]
  · rw [exec_busIdle calm]
    refine congrArg _ (if_neg fun ⟨htx, hreceiving⟩ => ?_)
    rcases hbusy with h | h
    · exact h htx
    · exact absurd (hreceiving.symm.trans h) Bool.false_ne_true
  · show Host.Outcome.next (startBit (settle s)) = _
    rw [settled]
    exact congrArg _ (if_pos ⟨htx, hidle⟩)
  · show Host.Outcome.next (completeIdentifier (settle s)) = _
    rw [settled]
    exact congrArg _ (if_pos htx)
  · show Host.Outcome.next (loseArbitration (settle s)) = _
    rw [settled, loseArbitration, if_pos htx, returnFrame_one hi hother]
  · show Host.Outcome.next (clashOnReadback (settle s)) = _
    rw [settled, clashOnReadback, if_pos htx, returnFrame_one hi hother, goMute_eq]

/-- Settles O51: the slot emptied and its owner told, and each owner's act. -/
theorem frameSentTellsOwner : Obligations.FrameSentTellsOwner := by
  intro s i f calm htx hi hother t load summary first noneFrom act
  obtain ⟨told, -⟩ := id calm
  have hact : act = ownerTold i t := ownerTold_of_quiet (s := t) told
  have hslot : t.slots[i] = .empty := setPlace_get_self _ _ _
  refine ⟨?_, fun h0 => ?_, fun h1 => ?_, fun h2 => ?_, fun h3 => ?_⟩
  · show Host.Outcome.next (if (settle s).bi.tx = .sending then frameSent (settle s) else settle s) = _
    rw [settle_calm calm, if_pos htx, frameSent, inFlightSlot_one hi hother]
    rfl
  · subst h0
    rw [hact]
    refine ⟨fun head hr => alertSent_last (s := t) hr, fun head next rest hr => ?_⟩
    exact (alertSent_next (s := t) hr).trans (loadSlot_empty (s := { t with aq := _ }) _ hslot)
  · subst h1
    intro b hb
    rw [hact]
    refine ⟨fun part hpart => ?_, fun hwhole => ⟨fun q hq => ?_, fun q next rest hq => ?_⟩⟩
    · exact (answerSent_part (s := t) hb hpart).trans (loadSlot_empty (s := { t with qq := _ }) _ hslot)
    · refine (answerSent_whole (s := t) hb hwhole).trans ?_
      rw [show t.qq.queries = [q] from hq]
      rfl
    · intro parts
      obtain ⟨part, others, hparts⟩ := answerParts_cons { t with qq := ⟨next :: rest, none⟩ } next
      refine ⟨part, others, hparts, (answerSent_whole (s := t) hb hwhole).trans ?_⟩
      rw [show t.qq.queries = q :: next :: rest from hq]
      refine (freezeHead_cons (s := { t with qq := ⟨next :: rest, none⟩ }) rfl hparts).trans ?_
      rw [show parts = part :: others from hparts]
      exact loadSlot_empty (s := { t with qq := _ }) _ hslot
  · subst h2
    rw [hact]
    refine ⟨fun p hp => ?_, fun hnone hpending => ?_, fun hnone hpending => ⟨fun p hp => ?_, fun hall => ?_⟩⟩
    · exact (searchOn_first (s := t) hp).trans (loadSummary_empty p _ hslot)
    · refine (searchOn_none (s := t) hnone).trans (if_neg ?_)
      exact Bool.eq_false_iff.1 hpending
    · exact (searchOn_none (s := t) hnone).trans ((if_pos hpending).trans
        ((beginRound_first (s := t) hp).trans (loadSummary_empty p _ hslot)))
    · exact (searchOn_none (s := t) hnone).trans ((if_pos hpending).trans
        (beginRound_none (s := t) fun q => hall q (Nat.zero_le _)))
  · subst h3
    exact hact

/-- Settles O52: the cases of a QUERY in their order. -/
theorem queriesAreQueued : Obligations.QueriesAreQueued := by
  intro c f a s hc hf m h
  have executed : exec c s = .next (takeQuery f.payload a h) := exec_frame_from hc hf
  rw [executed]
  refine ⟨fun hother => congrArg _ (takeQuery_other hother), fun kind htarget hkind => ?_⟩
  intro q
  have taken := takeQuery_own (s := h) (a := a) htarget hkind
  have queued : (h.qq.queries.any fun x => decide (x = ⟨a, kind, keptSubject kind m.subject⟩)) = true
      ↔ q ∈ s.qq.queries := by
    rw [List.any_eq_true]
    simp only [decide_eq_true_iff]
    exact ⟨fun ⟨x, hx, he⟩ => (show x = q from he) ▸ hx, fun hq => ⟨q, hq, rfl⟩⟩
  refine ⟨fun hold => ?_, fun hnew hone hroom => ?_, fun hempty hslot => ?_⟩
  · rw [taken]
    rcases hold with hq | hfull
    · rw [if_pos (queued.2 hq)]
    · rw [if_pos (show maxQueries ≤ h.qq.queries.length from hfull), ite_self]
  · rw [taken, if_neg (mt queued.1 hnew), if_neg (show ¬ maxQueries ≤ h.qq.queries.length from by
      show ¬ 4 ≤ s.qq.queries.length
      omega)]
    refine congrArg _ (if_neg fun hnil => ?_)
    rw [show s.qq.queries = [] from List.isEmpty_iff.1 hnil] at hone
    cases hone
  · intro parts
    obtain ⟨part, others, hparts⟩ := answerParts_cons { h with qq := { s.qq with queries := [q] } } q
    refine ⟨part, others, hparts, ?_⟩
    have hnew : q ∉ s.qq.queries := by simp [hempty]
    rw [taken, if_neg (mt queued.1 hnew), show h.qq.queries = [] from hempty]
    refine congrArg _ ((enqueue_empty (s := h) hempty).trans ?_)
    refine (freezeHead_cons (s := { h with qq := { s.qq with queries := [q] } }) rfl hparts).trans ?_
    rw [show parts = part :: others from hparts]
    exact loadSlot_empty (s := { h with qq := _ }) _ hslot

end Sys2Proof.Proofs
end

section
/-! SUPPORT. The stages that read the snapshot alone: what each of them does is the same whatever the live readings, the
live valve entries and the ages are (R111, R117). -/

namespace Sys2Proof.Laws

open Machine Safety

/-- Live values: the freshness table, the valve table, and what each gauge and meter has reported. -/
structure LiveValues where
  fresh : Vector FreshEntry 63
  valves : List ValveEntry
  gauges : Key → Option Byte × Option GaugeReading × Bool × Nat
  meters : Key → Option Byte × Option MeterReading

namespace LiveValues

variable (v : LiveValues) (s : State)

/-- A tank's working fields with the live values of its gauge. -/
def tankWork (k : Key) (w : TankWork) : TankWork :=
  { w with
    lastSeq := (v.gauges k).1
    reading := (v.gauges k).2.1
    gaugeInvalid := (v.gauges k).2.2.1
    confirm := (v.gauges k).2.2.2 }

def tank (r : TankRec) : TankRec := { r with work := r.work.map (v.tankWork r.key) }

/-- A meter's working fields with the live values that it has reported. -/
def meterWork (k : Key) (w : MeterWork) : MeterWork :=
  { w with lastSeq := (v.meters k).1, reading := (v.meters k).2 }

def meter (r : MeterRec) : MeterRec := { r with work := r.work.map (v.meterWork r.key) }

/-- The state with these live values. -/
def on : State :=
  { s with fresh := v.fresh, valves := v.valves, tanks := s.tanks.map v.tank, meters := s.meters.map v.meter }

/-! ### The tables -/

theorem map_putRec {α : Type} {ord : α → Nat} {f : α → α} (hf : ∀ x, ord (f x) = ord x) (r : α) (l : List α) :
    (putRec ord r l).map f = putRec ord (f r) (l.map f) := by
  induction l with
  | nil => rfl
  | cons x xs ih =>
    rw [putRec, List.map_cons, putRec, hf, hf]
    split
    · rfl
    · split
      · rfl
      · rw [List.map_cons, ih]

theorem findRec_map {α : Type} {ord : α → Nat} {f : α → α} (hf : ∀ x, ord (f x) = ord x) (k : Nat) (l : List α) :
    findRec ord k (l.map f) = (findRec ord k l).map f := by
  rw [findRec, findRec, List.find?_map]
  exact congrArg _ (congrArg (fun p => List.find? p l) (funext fun x => by simp [hf]))

theorem putTank_on (r : TankRec) : v.on (s.putTank r) = (v.on s).putTank (v.tank r) :=
  congrArg (fun l => { v.on s with tanks := l })
    (map_putRec (ord := tankOrd) (f := v.tank) (fun _ => rfl) r s.tanks)

theorem putMeter_on (r : MeterRec) : v.on (s.putMeter r) = (v.on s).putMeter (v.meter r) :=
  congrArg (fun l => { v.on s with meters := l })
    (map_putRec (ord := meterOrd) (f := v.meter) (fun _ => rfl) r s.meters)

theorem tank?_on (k : Key) : (v.on s).tank? k = (s.tank? k).map v.tank :=
  findRec_map (ord := tankOrd) (f := v.tank) (fun _ => rfl) _ _

theorem meter?_on (k : Key) : (v.on s).meter? k = (s.meter? k).map v.meter :=
  findRec_map (ord := meterOrd) (f := v.meter) (fun _ => rfl) _ _

theorem putWork_on (r : MeterRec) (w : MeterWork) :
    v.on (putWork r w s) = putWork (v.meter r) (v.meterWork r.key w) (v.on s) := putMeter_on v s _

theorem assignedTanks_on (p : ParcelNo) :
    assignedTanks (v.on s) p = (assignedTanks s p).map fun e => (e.1, v.tankWork e.1 e.2) := by
  unfold assignedTanks
  rw [show (v.on s).tanks = s.tanks.map v.tank from rfl, List.filterMap_map, List.map_filterMap]
  refine List.filterMap_congr fun r _ => ?_
  obtain ⟨key, decl, work⟩ := r
  cases work with
  | none => rfl
  | some w =>
    show (if w.parcel = some p then some (key, v.tankWork key w) else none) = _
    by_cases h : w.parcel = some p <;> simp [h]

/-! ### Alerts -/

theorem offer_on : v.on (offer s) = offer (v.on s) := by
  unfold offer
  rw [show mayOffer (v.on s) = mayOffer s from rfl, show (v.on s).slots = s.slots from rfl]
  split <;> [split; skip] <;> rfl

theorem loadSlot_on (i : Fin 4) (f : TxFrame) : v.on (loadSlot i f s) = loadSlot i f (v.on s) := by
  unfold loadSlot
  rw [show (v.on s).slots = s.slots from rfl]
  split
  · exact offer_on v _
  · rfl

theorem queueAlert_on (cause : Cause) (subject : Subject) (value : Int) :
    v.on (queueAlert cause subject value s) = queueAlert cause subject value (v.on s) := by
  unfold queueAlert
  rw [show (v.on s).aq = s.aq from rfl, show (v.on s).sr = s.sr from rfl]
  dsimp only
  split
  · exact loadSlot_on v _ _ _
  · split <;> [skip; split] <;> [skip; skip; split] <;> rfl

theorem queueAlertTimes_on (cause : Cause) (subject : Subject) (value : Int) (times : Nat) :
    v.on (queueAlertTimes cause subject value times s) = queueAlertTimes cause subject value times (v.on s) := by
  induction times generalizing s with
  | zero => rfl
  | succ times ih => exact (ih _).trans (congrArg _ (queueAlert_on v s _ _ _))

theorem planReject_on (subject : Subject) (rev : Byte) (why : RejectReason) :
    v.on (planReject subject rev why s) = planReject subject rev why (v.on s) := queueAlert_on v s _ _ _

theorem closeParcel_on (p : ParcelNo) (d : Int) (whileHeld : Bool) :
    v.on (closeParcel p d whileHeld s) = closeParcel p d whileHeld (v.on s) := queueAlert_on v _ _ _ _

/-! ### Stages 3 and 4 -/

theorem meterDeferred_on (k : Key) : meterDeferred (v.on s) k = meterDeferred s k := by
  unfold meterDeferred
  rw [meter?_on]
  rcases s.meter? k with _ | ⟨key, decl, _ | w⟩ <;> rfl

theorem recomputedHolds_on (stale : Vector Bool 63) (p : ParcelNo) :
    recomputedHolds (v.on s) stale p = recomputedHolds s stale p := by
  have tanks (basis : Option Basis) : tankStaleCause (v.on s) stale p basis = tankStaleCause s stale p basis := by
    rw [tankStaleCause, assignedTanks_on, List.any_map]
    rfl
  have meters (basis : Option Basis) : meterStaleCause (v.on s) stale p basis = meterStaleCause s stale p basis := by
    unfold meterStaleCause
    simp only [meterDeferred_on]
    rfl
  unfold recomputedHolds
  rw [tanks, meters]
  rfl

theorem recomputeHold_on (n : Snapshot) (p : ParcelNo) : v.on (recomputeHold n s p) = recomputeHold n (v.on s) p := by
  unfold recomputeHold
  rw [recomputedHolds_on, show (v.on s).parcels = s.parcels from rfl]
  split <;> rfl

theorem tankVolume_on (n : Snapshot) (r : TankRec) : v.tank (tankVolume n s r) = tankVolume n (v.on s) (v.tank r) := by
  obtain ⟨key, decl, _ | w⟩ := r
  · rfl
  · cases he : n.tank? key with
    | none =>
      unfold tankVolume
      simp only [tank, he]
      rfl
    | some e =>
      cases hp : w.parcel with
      | none =>
        rw [tankVolume_unassigned rfl he hp, tankVolume_unassigned rfl he (show (v.tankWork key w).parcel = none from hp)]
        rfl
      | some p =>
        have hp' : (v.tankWork key w).parcel = some p := hp
        by_cases hclosed : s.parcels[p].state = .closed
        · rw [tankVolume_closed rfl hp hclosed, tankVolume_closed (s := v.on s) rfl hp' hclosed]
        · rw [tankVolume_assigned rfl he hp hclosed, tankVolume_assigned (s := v.on s) rfl he hp' hclosed,
            show computingAlpha (v.on s) p = computingAlpha s p from rfl]
          split <;> rfl

theorem computeVolume_on (n : Snapshot) (e : TankSnap) : v.on (computeVolume n s e) = computeVolume n (v.on s) e := by
  unfold computeVolume
  rw [tank?_on]
  cases s.tank? e.key with
  | none => rfl
  | some r => exact (putTank_on v s _).trans (congrArg _ (tankVolume_on v s n r))

/-! ### Stage 5 -/

theorem creditUnrouted_on (r : MeterRec) (w : MeterWork) (cumulative : BitVec 24) (delta : Nat) :
    v.on (creditUnrouted r w cumulative delta s)
      = creditUnrouted (v.meter r) (v.meterWork r.key w) cumulative delta (v.on s) :=
  (queueAlertTimes_on v _ _ _ _ _).trans (congrArg _ (putWork_on v s _ _))

theorem attributeFlow_on (r : MeterRec) (w : MeterWork) (reading : MeterReading) (factor delta : Nat)
    (named : List ParcelNo) : v.on (attributeFlow r w reading factor delta named s)
      = attributeFlow (v.meter r) (v.meterWork r.key w) reading factor delta named (v.on s) := by
  unfold attributeFlow
  rw [show (v.on s).parcels = s.parcels from rfl]
  split
  · exact creditUnrouted_on v s _ _ _ _
  · next p =>
    split
    · exact congrArg (fun t : State => t.putParcel p _) (putWork_on v s _ _)
    · exact creditUnrouted_on v s _ _ _ _
  · exact (queueAlert_on v _ _ _ _).trans (congrArg _ (putWork_on v s _ _))

theorem consume_on (n : Snapshot) (r : MeterRec) (w : MeterWork) (e : MeterSnap) :
    v.on (consume n r w e s) = consume n (v.meter r) (v.meterWork r.key w) e (v.on s) := by
  unfold consume
  rw [show termsOfMeter (v.on s) = termsOfMeter s from rfl, show (v.meterWork r.key w).baseline = w.baseline from rfl,
    show (v.meter r).key = r.key from rfl]
  split
  · exact putWork_on v s _ _
  · exact putWork_on v s _ _
  · dsimp only
    split
    · exact putWork_on v s _ _
    · split
      · exact (queueAlert_on v _ _ _ _).trans (congrArg _ (putWork_on v s _ _))
      · split
        · exact congrArg (holdDeferred _) (putWork_on v s _ _)
        · exact attributeFlow_on v s _ _ _ _ _ _

theorem consumeMeter_on (n : Snapshot) (e : MeterSnap) : v.on (consumeMeter n s e) = consumeMeter n (v.on s) e := by
  unfold consumeMeter
  rw [meter?_on]
  rcases s.meter? e.key with _ | ⟨key, decl, _ | w⟩
  · rfl
  · rfl
  · exact consume_on v s n _ w e

/-! ### Stage 6 -/

theorem mapAssigned_on (p : ParcelNo) {f : TankWork → TankWork}
    (hf : ∀ k w, v.tankWork k (f w) = f (v.tankWork k w)) : v.on (mapAssigned p f s) = mapAssigned p f (v.on s) := by
  refine congrArg (fun l => { v.on s with tanks := l }) ?_
  show (s.tanks.map _).map v.tank = (s.tanks.map v.tank).map _
  rw [List.map_map, List.map_map]
  refine List.map_congr_left fun r _ => ?_
  obtain ⟨key, decl, _ | w⟩ := r
  · rfl
  · show TankRec.mk key decl (some (v.tankWork key (if w.parcel = some p then f w else w)))
      = TankRec.mk key decl (some (if w.parcel = some p then f (v.tankWork key w) else v.tankWork key w))
    by_cases h : w.parcel = some p
    · rw [if_pos h, if_pos h, hf]
    · rw [if_neg h, if_neg h]

theorem openRefusal_on (n : Snapshot) (p : ParcelNo) : openRefusal n (v.on s) p = openRefusal n s p := by
  unfold openRefusal
  rw [assignedTanks_on]
  simp only [List.any_map]
  rfl

theorem applyOpen_on (n : Snapshot) (p : ParcelNo) (expected : Byte) :
    v.on (applyOpen n p expected s) = applyOpen n p expected (v.on s) := by
  unfold applyOpen
  rw [openRefusal_on]
  split
  · exact queueAlert_on v _ _ _ _
  · exact mapAssigned_on v _ p fun _ _ => rfl

theorem applyClose_on (p : ParcelNo) (expected : Byte) :
    v.on (applyClose p expected s) = applyClose p expected (v.on s) := by
  unfold applyClose
  rw [show (v.on s).parcels = s.parcels from rfl]
  split
  · rfl
  · exact closeParcel_on v s _ _ _
  · exact planReject_on v s _ _ _

theorem uncredited_on (p : ParcelNo) (k : Key) (w : MeterWork) :
    v.meterWork k (w.uncredited p) = (v.meterWork k w).uncredited p := by
  show v.meterWork k (if w.lastCredited = some p then { w with lastCredited := none } else w)
    = if w.lastCredited = some p then { v.meterWork k w with lastCredited := none } else v.meterWork k w
  split <;> rfl

theorem releaseNow_on (p : ParcelNo) : v.on (releaseNow p s) = releaseNow p (v.on s) := by
  have released := mapAssigned_on v (s.putParcel p s.parcels[p].releasedNow) p (f := TankWork.released) fun _ _ => rfl
  have meters : (s.meters.map fun r => { r with work := r.work.map (MeterWork.uncredited p) }).map v.meter
      = (s.meters.map v.meter).map fun r => { r with work := r.work.map (MeterWork.uncredited p) } := by
    rw [List.map_map, List.map_map]
    refine List.map_congr_left fun r _ => ?_
    obtain ⟨key, decl, _ | w⟩ := r
    · rfl
    · exact congrArg (fun w => MeterRec.mk key decl (some w)) (uncredited_on v p key w)
  exact congrArg₂ (fun (t : State) l => driveAlertN
    { t with meters := l, peers := s.peers.filter fun e => decide (e.parcel ≠ p) }) released meters

theorem applyRelease_on (p : ParcelNo) (expected : Byte) :
    v.on (applyRelease p expected s) = applyRelease p expected (v.on s) := by
  unfold applyRelease
  rw [show (v.on s).parcels = s.parcels from rfl]
  split
  · exact releaseNow_on v s p
  · exact releaseNow_on v s p
  · rfl
  · exact planReject_on v s _ _ _

theorem applyMark_on (n : Snapshot) (p : ParcelNo) : v.on (applyMark n s p) = applyMark n (v.on s) p := by
  unfold applyMark
  rw [show (v.on s).parcels = s.parcels from rfl]
  split
  · rfl
  · dsimp only
    split
    · unfold applyKind
      split
      · exact applyOpen_on v _ _ _ _
      · exact applyClose_on v _ _ _
      · exact applyRelease_on v _ _ _
    · unfold refuseRevision
      split <;> exact queueAlert_on v _ _ _ _

/-! ### Stage 7 -/

theorem evaluation_on (p : ParcelNo) (d : ParcelDecl) : evaluation (v.on s) p d = evaluation s p d := by
  have sums (side : Side) : sideSum (v.on s) p d.direction side = sideSum s p d.direction side := by
    rw [sideSum, assignedTanks_on, List.map_map]
    rfl
  unfold evaluation
  rw [sums, sums]
  rfl

theorem carryOut_on (p : ParcelNo) (d : Int) : v.on (carryOut p d s) = carryOut p d (v.on s) := by
  unfold carryOut
  rw [show (v.on s).parcels = s.parcels from rfl, show (v.on s).sr = s.sr from rfl]
  split
  · rfl
  · rfl
  · exact queueAlert_on v _ _ _ _
  · exact queueAlert_on v _ _ _ _

theorem toleranceStep_on (p : ParcelNo) (excursive : Bool) (d : Int) :
    v.on (toleranceStep p excursive d s) = toleranceStep p excursive d (v.on s) := by
  unfold toleranceStep latch
  rw [show (v.on s).parcels = s.parcels from rfl]
  dsimp only
  split
  · exact (carryOut_on v _ _ _).trans (congrArg _ (queueAlert_on v _ _ _ _))
  · rfl

theorem evaluateActive_on (p : ParcelNo) (d : ParcelDecl) :
    v.on (evaluateActive p d s) = evaluateActive p d (v.on s) := by
  unfold evaluateActive
  rw [evaluation_on, show (v.on s).parcels = s.parcels from rfl]
  dsimp only
  have stepped := toleranceStep_on v (keepEvaluated p (evaluation s p d).figures
    (s.putParcel p { s.parcels[p] with saturation := (evaluation s p d).figures.saturated })) p
    (evaluation s p d).excursive (evaluation s p d).figures.d
  split
  · exact (closeParcel_on v _ _ _ _).trans (congrArg _ stepped)
  · exact stepped

theorem evaluateParcel_on (p : ParcelNo) : v.on (evaluateParcel s p) = evaluateParcel (v.on s) p := by
  unfold evaluateParcel
  rw [show (v.on s).parcels = s.parcels from rfl]
  split
  · exact evaluateActive_on v s _ _
  · split
    · exact closeParcel_on v s _ _ _
    · rfl
  · rfl

/-! ### The stages -/

theorem dealNext_on {α : Type} {next : Stage} {left : State → List α} {act : State → α → State}
    (hleft : ∀ s, left (v.on s) = left s) (hact : ∀ s x, v.on (act s x) = act (v.on s) x) :
    v.on (dealNext next left act s) = dealNext next left act (v.on s) := by
  unfold dealNext
  rw [hleft]
  split
  · rfl
  · rw [← hact, hleft]
    split <;> rfl

theorem atStage_on {g : Stage} {work : State → State} (h : ∀ s, v.on (work s) = work (v.on s)) :
    v.on (atStage g work s) = atStage g work (v.on s) := by
  unfold atStage
  rw [show (v.on s).ee = s.ee from rfl]
  split
  · exact h s
  · rfl

theorem withSnapshot_on {work : Snapshot → State → State} (h : ∀ n s, v.on (work n s) = work n (v.on s)) :
    v.on (withSnapshot work s) = withSnapshot work (v.on s) := by
  unfold withSnapshot
  rw [show (v.on s).ee = s.ee from rfl]
  split
  · exact h _ s
  · rfl

end LiveValues

end Sys2Proof.Laws
end

section
/-! PROOFS. The stages and the live values. -/

namespace Sys2Proof.Proofs

open Machine Safety Laws LiveValues

/-- Settles O46: each of the stages does the same with the live values changed, and leaves them. -/
theorem stagesReadSnapshotAlone : Obligations.StagesReadSnapshotAlone := by
  intro fresh valves gauges meters live c s hc calm
  let v : LiveValues := ⟨fresh, valves, gauges, meters⟩
  have settled : settle s = s := settle_calm calm
  have settledLive : settle (live s) = live s := settle_calm calm
  have stage {g : Stage} {work : State → State} (hexec : ∀ t, exec c t = .next (atStage g work (settle t)))
      (hwork : ∀ s, v.on (work s) = work (v.on s)) :
      ∃ t, exec c s = .next t ∧ exec c (live s) = .next (live t) := by
    refine ⟨atStage g work s, by rw [hexec, settled], ?_⟩
    rw [hexec, settledLive]
    exact congrArg _ (atStage_on v s hwork).symm
  rcases hc with rfl | rfl | rfl | rfl | rfl
  · exact stage (g := .holdCauses) (fun _ => rfl) fun s => withSnapshot_on v s fun n s =>
      dealNext_on v s (fun _ => rfl) fun s p => congrArg (reach _) (recomputeHold_on v s n p)
  · exact stage (g := .tankVolumes) (fun _ => rfl) fun s => withSnapshot_on v s fun n s =>
      dealNext_on v s (fun _ => rfl) fun s e => congrArg (reach _) (computeVolume_on v s n e)
  · exact stage (g := .meterFlow) (fun _ => rfl) fun s => withSnapshot_on v s fun n s =>
      dealNext_on v s (fun _ => rfl) fun s e => congrArg (reach _) (consumeMeter_on v s n e)
  · exact stage (g := .marks) (fun _ => rfl) fun s => withSnapshot_on v s fun n s =>
      dealNext_on v s (fun _ => rfl) fun s p => congrArg (reach _) (applyMark_on v s n p)
  · exact stage (g := .figures) (fun _ => rfl) fun s =>
      dealNext_on v s (fun _ => rfl) fun s p => congrArg (reach _) (evaluateParcel_on v s p)

end Sys2Proof.Proofs
end

section
/-! SUPPORT. The bytes of a payload, read and written: bits, fields, and numbers of several bytes (R186). -/

namespace Sys2Proof.Laws

open Machine Safety

variable {p : List Byte} {i n : Nat}

theorem getLsbD_iff {x : Byte} : x.getLsbD i = true ↔ x.toNat / 2 ^ i % 2 = 1 := by
  rw [← BitVec.testBit_toNat, Nat.testBit_eq_decide_div_mod_eq, decide_eq_true_iff]

theorem byteAt_lt (p : List Byte) (i : Nat) : (byteAt p i).toNat < 256 := (byteAt p i).isLt

theorem byteOf_toNat (n : Nat) : (byteOf n).toNat = n % 256 := BitVec.toNat_ofNat n 8

theorem unsignedAt_two : unsignedAt p i 2 = (byteAt p i).toNat * 256 + (byteAt p (i + 1)).toNat := by
  simp [unsignedAt]

theorem unsignedAt_three : unsignedAt p i 3
    = (byteAt p i).toNat * 65536 + ((byteAt p (i + 1)).toNat * 256 + (byteAt p (i + 2)).toNat) := by
  simp only [unsignedAt, Nat.add_zero]
  omega

theorem unsignedAt_four : unsignedAt p i 4 = ((byteAt p i).toNat * 256 + (byteAt p (i + 1)).toNat) * 65536
    + ((byteAt p (i + 2)).toNat * 256 + (byteAt p (i + 3)).toNat) := by
  simp only [unsignedAt, Nat.add_zero]
  omega

theorem signed16At_eq : signed16At p i
    = if 32768 ≤ unsignedAt p i 2 then (unsignedAt p i 2 : Int) - 65536 else (unsignedAt p i 2 : Int) := by
  have hlow := byteAt_lt p i
  have hhigh := byteAt_lt p (i + 1)
  have hword := unsignedAt_two (p := p) (i := i)
  have hsmall : unsignedAt p i 2 % 2 ^ 16 = unsignedAt p i 2 := Nat.mod_eq_of_lt (by omega)
  rw [signed16At, BitVec.toInt_eq_toNat_cond, BitVec.toNat_ofNat, hsmall]
  split <;> split <;> omega

/-- Every key byte but the last four names a key (R25). -/
theorem keyOfCode_cases (n : Nat) (hn : n < 256) : if 252 ≤ n then keyOfCode n = none
    else ∃ x : Key, keyOfCode n = some x ∧ x.station.val = n / 4 ∧ x.index.val = n % 4 := by
  unfold keyOfCode
  split
  · exact dif_neg (by omega)
  · exact ⟨_, dif_pos (by omega), rfl, rfl⟩

theorem markOfCode_eq (n : Nat) : markOfCode n = if n = 1 then some .openParcel else if n = 2 then some .closeParcel
    else if n = 3 then some .releaseParcel else none := by
  unfold markOfCode
  split
  · rfl
  · rfl
  · rfl
  · next h1 h2 h3 => rw [if_neg h1, if_neg h2, if_neg h3]

theorem queryKindOfCode_eq (n : Nat) : queryKindOfCode n = if n = 1 then some .parcel else if n = 2 then some .tank
    else if n = 3 then some .meter else if n = 4 then some .term else if n = 5 then some .node
    else if n = 6 then some .timer else none := by
  unfold queryKindOfCode
  split
  iterate 6 rfl
  next h1 h2 h3 h4 h5 h6 => rw [if_neg h1, if_neg h2, if_neg h3, if_neg h4, if_neg h5, if_neg h6]

theorem valveStateOf_eq (n : Nat) : valveStateOf n = if n = 0 then .opened else if n = 1 then .closed
    else if n = 2 then .moving else .fault := by
  unfold valveStateOf
  split
  · rfl
  · rfl
  · rfl
  · next h0 h1 h2 => rw [if_neg h0, if_neg h1, if_neg h2]

theorem ite_eq_first {α : Type} {b : Bool} {x y : α} (h : y ≠ x) : (if b = true then x else y) = x ↔ b = true := by
  cases b <;> simp [h]

theorem fieldOf_zero (x : Byte) (w : Nat) : fieldOf x 0 w = x.toNat % 2 ^ w := by simp [fieldOf]

/-- A field at the top of a byte. -/
theorem fieldOf_top {x : Byte} {low width : Nat} (h : low + width = 8) : fieldOf x low width = x.toNat / 2 ^ low := by
  refine Nat.mod_eq_of_lt (Nat.div_lt_of_lt_mul ?_)
  rw [← pow_add, h]
  exact x.isLt

end Sys2Proof.Laws
end

section
/-! PROOFS. The payloads that reach an owner. -/

namespace Sys2Proof.Proofs

open Machine Safety Laws

/-- Settles O14: each field is the bits of Table 10-2. -/
theorem payloadsAreReadByLayout : Obligations.PayloadsAreReadByLayout := by
  intro p b word signed bit key
  have hword (i : Nat) : unsignedAt p i 2 = word i := unsignedAt_two
  have hsigned (i : Nat) : signed16At p i = signed i := by
    rw [signed16At_eq, hword]
  have hbit (i n : Nat) : (byteAt p i).getLsbD n = true ↔ bit i n := getLsbD_iff
  have hkey : key 0 (keyOfCode (byteAt p 0).toNat) := keyOfCode_cases _ (byteAt_lt p 0)
  refine ⟨?_, ?_, ?_, ?_, ?_, ?_, ?_, ?_, ?_, ?_⟩
  · exact ⟨by simp [decodeGauge, fieldOf, b], hbit 0 7, rfl, unsignedAt_four, unsignedAt_three, hsigned 9⟩
  · refine ⟨by simp [decodeMeter, fieldOf, b], hbit 0 7, rfl, ?_, hsigned 5⟩
    have h2 := byteAt_lt p 2
    have h3 := byteAt_lt p 3
    have h4 := byteAt_lt p 4
    refine (BitVec.toNat_ofNat _ 24).trans ?_
    rw [unsignedAt_three, Nat.mod_eq_of_lt (by omega)]
  · refine ⟨rfl, fun v => ?_⟩
    have hfield : fieldOf (byteAt p (1 + v.val / 4)) (2 * (v.val % 4)) 2 = b (1 + v.val / 4) / 4 ^ (v.val % 4) % 4 := by
      rw [fieldOf, pow_mul]
      rfl
    intro code
    simp only [decodeValve, Fin.getElem_fin, Vector.getElem_ofFn]
    rw [hfield]
    exact valveStateOf_eq _
  · exact ⟨hkey, rfl, hbit 2 0, unsignedAt_three⟩
  · exact ⟨hkey, rfl, hbit 2 7, fieldOf_zero _ 2, fieldOf_zero _ 4⟩
  · exact ⟨⟨_, rfl, by simp [fieldOf, b]⟩, rfl, (ite_eq_first (by decide)).trans (hbit 2 0),
      by simp [decodeDParcel, fieldOf, b], (ite_eq_first (by decide)).trans (hbit 2 3),
      by simp [decodeDParcel, fieldOf, b], hbit 2 6, by simp [decodeDParcel, fieldOf, b], hword 4, hword 6, rfl,
      hword 9, rfl⟩
  · refine ⟨?_, rfl, fieldOf_top rfl, by simp [decodeDRoute, fieldOf, b], fieldOf_zero _ 4, fieldOf_top rfl,
      fun hmany => if_neg (by exact Nat.not_le.2 hmany), fun hfew => ?_⟩
    · split
      · next h => exact decodeDRoute_no_key h
      · next h => exact ⟨_, dif_pos (Nat.not_le.1 h), rfl⟩
    · have hlist : (decodeDRoute p).copy.contents.literals
          = (List.range (fieldOf (byteAt p 3) 4 4)).map (decodeLiteral p) := if_pos hfew
      rw [hlist]
      refine ⟨by simp [decodeDRoute], fun i l hl => ?_⟩
      rw [List.getElem?_map, Option.map_eq_some_iff] at hl
      obtain ⟨j, hj, rfl⟩ := hl
      obtain ⟨hlt, hj⟩ := List.getElem?_eq_some_iff.1 hj
      rw [List.getElem_range] at hj
      subst hj
      exact ⟨fieldOf_top rfl, fieldOf_zero _ 2, by simp [decodeLiteral, fieldOf, b]⟩
  · exact ⟨by simp [decodeMark, fieldOf, b], rfl, markOfCode_eq _⟩
  · exact ⟨fieldOf_zero _ 6, by simp [decodeCadence, fieldOf, b], (ite_eq_first (by decide)).trans (hbit 1 2),
      (ite_eq_first (by decide)).trans (hbit 1 3), hbit 1 6, hbit 1 7, rfl, fieldOf_zero _ 4⟩
  · exact ⟨fieldOf_zero _ 6, rfl, queryKindOfCode_eq _⟩

end Sys2Proof.Proofs
end

section
/-! SUPPORT. The frames the node sends: numbers written and read again, and the bits of a frame (R172 to R174). -/

namespace Sys2Proof.Laws

open Machine Safety

variable {s : State}

/-! ### Numbers written and read again -/

theorem byteAt_unsignedBytes {k n : Nat} (v : Nat) (h : n < k) :
    byteAt (unsignedBytes k v) n = BitVec.ofNat 8 (v / 256 ^ (k - (n + 1))) := by
  induction k generalizing n with
  | zero => omega
  | succ k ih =>
    cases n with
    | zero => rfl
    | succ n => exact (ih (Nat.lt_of_succ_lt_succ h)).trans (by rw [Nat.add_sub_add_right])

/-- The first bytes of a number read as the number without its last bytes. -/
theorem unsignedAt_unsignedBytes_prefix {k n : Nat} (v : Nat) (h : n ≤ k) :
    unsignedAt (unsignedBytes k v) 0 n = v / 256 ^ (k - n) % 256 ^ n := by
  induction n with
  | zero => simp [unsignedAt, Nat.mod_one]
  | succ n ih =>
    have hpow : 256 ^ (k - n) = 256 ^ (k - (n + 1)) * 256 := by
      rw [← pow_succ]
      congr 1
      omega
    have hdigit (w : Nat) : w % 256 ^ (n + 1) = w % 256 + 256 * (w / 256 % 256 ^ n) := by rw [pow_succ', Nat.mod_mul]
    rw [unsignedAt, ih (by omega), Nat.zero_add, byteAt_unsignedBytes v h, BitVec.toNat_ofNat, hpow,
      ← Nat.div_div_eq_div_mul, hdigit, Nat.mul_comm, Nat.add_comm]

theorem unsignedAt_unsignedBytes (k v : Nat) : unsignedAt (unsignedBytes k v) 0 k = v % 256 ^ k := by
  rw [unsignedAt_unsignedBytes_prefix v (Nat.le_refl k), Nat.sub_self, pow_zero, Nat.div_one]

theorem signed32At_signedBytes {v : Int} (h : v.natAbs ≤ 2147483647) : signed32At (signedBytes 4 v) 0 = v := by
  rw [signed32At, signedBytes, unsignedAt_unsignedBytes, BitVec.toInt_eq_toNat_cond, BitVec.toNat_ofNat]
  split <;> omega

theorem signed16At_signedBytes {v : Int} (hlow : -32768 ≤ v) (hhigh : v ≤ 32767) :
    signed16At (signedBytes 2 v) 0 = v := by
  rw [signed16At, signedBytes, unsignedAt_unsignedBytes, BitVec.toInt_eq_toNat_cond, BitVec.toNat_ofNat]
  split <;> omega

/-! ### The bits of a frame -/

theorem bitsOf_length (w n : Nat) : (bitsOf w n).length = w := by
  induction w with
  | zero => rfl
  | succ w ih => rw [bitsOf, List.length_cons, ih]

theorem payloadBits_length (p : List Byte) : (p.flatMap fun b => bitsOf 8 b.toNat).length = 8 * p.length := by
  induction p with
  | nil => rfl
  | cons b rest ih =>
    rw [List.flatMap_cons, List.length_append, ih, bitsOf_length, List.length_cons]
    omega

theorem lengthOk_le {k : FrameKind} {n : Nat} (h : lengthOk k n = true) : n ≤ 16 := by
  cases k <;> simp [lengthOk] at h <;> omega

section Driven

variable (i : Fin 4) (k : FrameKind) (address : Fin 27) (p : List Byte)

theorem drivenFrame_cls : (drivenFrame i.val k address.val p).cls.toNat = i.val :=
  (BitVec.toNat_ofNat _ 2).trans (Nat.mod_eq_of_lt i.isLt)

theorem drivenFrame_kind : (drivenFrame i.val k address.val p).kind.toNat = kindCode k := by
  obtain ⟨-, hhigh⟩ := kindCode_range k
  exact (BitVec.toNat_ofNat _ 4).trans (Nat.mod_eq_of_lt (by omega))

theorem drivenFrame_src : (drivenFrame i.val k address.val p).src.toNat = address.val := by
  have := address.isLt
  exact (BitVec.toNat_ofNat _ 6).trans (Nat.mod_eq_of_lt (by omega))

theorem drivenFrame_len (h : p.length ≤ 16) : (drivenFrame i.val k address.val p).len.toNat = p.length :=
  (BitVec.toNat_ofNat _ 5).trans (Nat.mod_eq_of_lt (by omega))

theorem drivenFrame_check : (drivenFrame i.val k address.val p).check
    = checkOf (coveredBits i.val (kindCode k) address.val p.length p) := by rw [drivenFrame]

theorem drivenFrame_payload : (drivenFrame i.val k address.val p).payload = p := rfl

/-- A frame driven passes the tests of R174 where its payload has a length of its kind. -/
theorem drivenFrame_good (h : lengthOk k p.length = true) : isGood (drivenFrame i.val k address.val p) = true := by
  have hlen := drivenFrame_len i k address p (lengthOk_le h)
  have := address.isLt
  rw [isGood_iff, drivenFrame_cls, drivenFrame_kind, drivenFrame_src, hlen, drivenFrame_payload, drivenFrame_check]
  exact ⟨rfl, lengthOk_le h, rfl, rfl, by omega, k, kindOfCode_kindCode k, h⟩

end Driven

/-! ### Codes -/

theorem roleOfCode_roleCode (x : Role) : roleOfCode (roleCode x) = some x := by cases x <;> rfl

theorem roleCode_le (x : Role) : roleCode x ≤ 3 := by cases x <;> decide

theorem stateOfCode_stateCode (x : ParcelState) : stateOfCode (stateCode x) = some x := by cases x <;> rfl

theorem stateCode_le (x : ParcelState) : stateCode x ≤ 4 := by cases x <;> decide

theorem causeCode_le (x : Cause) : causeCode x ≤ 12 := by cases x <;> decide

theorem subjectClass_le (x : Subject) : subjectClass x ≤ 6 := by cases x <;> simp [subjectClass]

theorem keyCode_lt (k : Key) : keyCode k < 252 := by
  have := k.station.isLt
  have := k.index.isLt
  rw [keyCode]
  omega

theorem subjectByte_lt (x : Subject) : subjectByte x < 256 := by
  cases x with
  | nothing => exact Nat.zero_lt_succ _
  | parcel p => exact p.isLt.trans (by decide)
  | tank k => exact (keyCode_lt k).trans (by decide)
  | meter k => exact (keyCode_lt k).trans (by decide)
  | term q => exact q.isLt.trans (by decide)
  | station a => exact a.isLt.trans (by decide)
  | all => exact Nat.zero_lt_succ _

theorem byteOf_small {n : Nat} (h : n < 256) : (byteOf n).toNat = n := (byteOf_toNat n).trans (Nat.mod_eq_of_lt h)

/-- Two states in one byte, each read again. -/
theorem statePair_toNat (s : State) (low high : ParcelNo) : (statePair s low high).toNat
    = stateCode s.parcels[low].published.state + 16 * stateCode s.parcels[high].published.state := byteOf_small (by
  have := stateCode_le s.parcels[low].published.state
  have := stateCode_le s.parcels[high].published.state
  omega)

theorem statePair_low (s : State) (low high : ParcelNo) :
    fieldOf (statePair s low high) 0 4 = stateCode s.parcels[low].published.state := by
  have := stateCode_le s.parcels[low].published.state
  rw [fieldOf, statePair_toNat]
  omega

theorem statePair_high (s : State) (low high : ParcelNo) :
    fieldOf (statePair s low high) 4 4 = stateCode s.parcels[high].published.state := by
  have := stateCode_le s.parcels[low].published.state
  have := stateCode_le s.parcels[high].published.state
  rw [fieldOf, statePair_toNat]
  omega

/-- The terms held are counted by their positions. -/
theorem heldTerms_length (s : State) :
    (heldTerms s).length = (List.finRange 24).countP fun q => (s.terms[q]).term.isSome := by
  have positions : s.terms.toList = (List.finRange 24).map fun q => s.terms[q] :=
    List.ext_getElem (by simp) fun i h _ => by simp
  rw [heldTerms, List.length_filterMap_eq_countP, positions, List.countP_map]
  rfl

theorem heldTerms_length_le (s : State) : (heldTerms s).length ≤ 24 := by
  rw [heldTerms_length]
  exact List.countP_le_length.trans_eq (List.length_finRange)

theorem toNat_eq_one_iff {b : Bool} : b.toNat = 1 ↔ b = true := by cases b <;> decide

end Sys2Proof.Laws
end

section
/-! PROOFS. The frames the node drives, and what a peer reads in them. -/

namespace Sys2Proof.Proofs

open Machine Safety Laws

/-- Settles O9: the driven frame field by field, the ALERT byte by byte, and the offer by its slot. -/
theorem nodeFramesAreGood : Obligations.NodeFramesAreGood := by
  refine ⟨fun i f address => ?_, fun a => ⟨?_, ?_, ?_, ?_⟩, fun r hr => ?_, fun s htx hoffer => ?_,
    fun c c' k k' a a' ha ha' hne heq => ?_⟩
  · intro r
    have hid : identifier r.cls.toNat r.kind.toNat r.src.toNat = i.val * 1024 + kindCode f.kind * 64 + address.val := by
      rw [drivenFrame_cls, drivenFrame_kind, drivenFrame_src, identifier]
    refine ⟨⟨rfl, rfl⟩, hid, rfl, fun hlength => ?_⟩
    have hlen : r.len.toNat = f.payload.length := drivenFrame_len _ _ _ _ (lengthOk_le hlength)
    have hend : bitsOf 7 r.ending.toNat = List.replicate 7 true := (by decide : bitsOf 7 (0x7F#7).toNat = _)
    have hbits : frameBits r = [false] ++ bitsOf 12 (i.val * 1024 + kindCode f.kind * 64 + address.val)
        ++ bitsOf 5 f.payload.length ++ f.payload.flatMap (fun b => bitsOf 8 b.toNat)
        ++ bitsOf 16 r.check.toNat ++ List.replicate 7 true := by
      rw [frameBits, coveredBits, hid, hlen, hend]
      simp [r, drivenFrame]
    refine ⟨drivenFrame_good i f.kind address f.payload hlength, hlen, ?_, hbits⟩
    rw [hbits]
    simp only [List.length_append, bitsOf_length, payloadBits_length, List.length_replicate, List.length_singleton]
    omega
  iterate 4 · simp only [identifier, kindCode]
  · intro f
    have hvalue : signed32At f.payload 3 = signed32At (signedBytes 4 r.value) 0 := rfl
    have htime : unsignedAt f.payload 7 4 = unsignedAt (unsignedBytes 4 r.time.toNat) 0 4 := rfl
    have := causeCode_le r.cause
    have := subjectClass_le r.subject
    refine ⟨rfl, rfl, byteOf_small (by omega), byteOf_small (by omega), byteOf_small (subjectByte_lt _),
      hvalue.trans (signed32At_signedBytes hr), htime.trans ?_⟩
    rw [unsignedAt_unsignedBytes]
    exact Nat.mod_eq_of_lt r.time.isLt
  · rcases offer_cases (s := s) with ⟨hsame, -⟩ | ⟨i, -, hlow, hnew⟩
    · rw [hsame, htx] at hoffer
      cases hoffer
    · obtain ⟨hpending, -⟩ := lowestPending_spec hlow
      obtain ⟨f, hf⟩ := Slot.isPending_iff.1 hpending
      refine ⟨i, f, hf, ?_, ?_⟩
      · rw [hnew]
        exact (setPlace_get_self _ _ _).trans (by rw [hf]; rfl)
      · rw [hnew, hf]
        rfl
  · simp only [identifier] at heq
    omega

/-- Settles O10: a peer reads each field where the node wrote it. -/
theorem peersReadWhatNodeSends : Obligations.PeersReadWhatNodeSends := by
  refine ⟨fun role p r c hc => ?_, fun s withheld overrun hs => ?_⟩
  · intro f hadj hh hd payload
    have hrev : r.revByte = c.rev := by rw [ParcelRec.revByte, hc]
    have head : (byteAt payload 0).toNat = p.val + 16 * roleCode role := byteOf_small (by
      have := roleCode_le role
      omega)
    have flags : (byteAt payload 1).toNat = stateCode r.published.state
        + 64 * r.published.figures.saturated.toNat
        + 128 * r.published.closedWhileHeld.toNat := byteOf_small (by
      have := stateCode_le r.published.state
      have := Bool.toNat_le r.published.figures.saturated
      have := Bool.toNat_le r.published.closedWhileHeld
      simp only [flag]
      omega)
    have hsmall := roleCode_le role
    have hstate := stateCode_le r.published.state
    refine ⟨rfl, ?_, ?_, ?_, (rfl : signed32At payload 3 = signed32At (signedBytes 4 f.sAdj) 0).trans
      (signed32At_signedBytes hadj), (rfl : signed32At payload 7 = signed32At (signedBytes 4 f.h) 0).trans
      (signed32At_signedBytes hh)⟩
    · have hparcel : (Fin.ofNat 8 (fieldOf (byteAt payload 0) 0 3) : ParcelNo) = p := by
        have := p.isLt
        refine Fin.ext ?_
        show fieldOf (byteAt payload 0) 0 3 % 8 = p.val
        rw [fieldOf, head]
        omega
      have hrole : fieldOf (byteAt payload 0) 4 2 = roleCode role := by
        have := p.isLt
        rw [fieldOf, head]
        omega
      have hpublished : fieldOf (byteAt payload 1) 0 4 = stateCode r.published.state := by
        rw [fieldOf, flags]
        omega
      have hd' : signed32At payload 11 = f.d :=
        (rfl : signed32At payload 11 = signed32At (signedBytes 4 f.d) 0).trans (signed32At_signedBytes hd)
      rw [decodeSummary, hparcel, hrole, hpublished, hd', roleOfCode_roleCode, stateOfCode_stateCode, ← hrev]
      rfl
    · rw [Bool.eq_iff_iff, getLsbD_iff, flags, ← toNat_eq_one_iff]
      have := Bool.toNat_le r.published.figures.saturated
      have := Bool.toNat_le r.published.closedWhileHeld
      show _ ↔ r.published.figures.saturated.toNat = 1
      omega
    · rw [Bool.eq_iff_iff, getLsbD_iff, flags, ← toNat_eq_one_iff]
      have := Bool.toNat_le r.published.figures.saturated
      omega
  · intro payload
    have condition : (byteAt payload 0).toNat = roleCode s.sr.role + 16 * (decide (s.sr.esdLevel = .asserted)).toNat
        + 32 * withheld.toNat + 64 * overrun.toNat := byteOf_small (by
      have := roleCode_le s.sr.role
      have := Bool.toNat_le (esdAsserted s)
      have := Bool.toNat_le withheld
      have := Bool.toNat_le overrun
      simp only [flag]
      omega)
    have hrole := roleCode_le s.sr.role
    have hesd := Bool.toNat_le (decide (s.sr.esdLevel = .asserted))
    have hwithheld := Bool.toNat_le withheld
    have hoverrun := Bool.toNat_le overrun
    obtain ⟨⟨-, htanks⟩, ⟨-, hmeters⟩, -⟩ := hs
    refine ⟨rfl, ?_, fun p => ?_, ?_, ?_, ?_, byteOf_small ?_, byteOf_small ?_, ?_⟩
    · show roleOfCode (fieldOf (byteAt payload 0) 0 2) = _
      rw [← roleOfCode_roleCode, fieldOf, condition]
      congr 1
      omega
    · have code : stateOfCode (fieldOf (byteAt payload (1 + p.val / 2)) (4 * (p.val % 2)) 4)
          = some s.parcels[p].published.state := by
        rw [← stateOfCode_stateCode]
        refine congrArg stateOfCode ?_
        match p with
        | 0 => exact statePair_low s 0 1
        | 1 => exact statePair_high s 0 1
        | 2 => exact statePair_low s 2 3
        | 3 => exact statePair_high s 2 3
        | 4 => exact statePair_low s 4 5
        | 5 => exact statePair_high s 4 5
        | 6 => exact statePair_low s 6 7
        | 7 => exact statePair_high s 6 7
      rw [← code]
      simp [decodeAnnounce, payload]
    · rw [Bool.eq_iff_iff, getLsbD_iff, condition, ← toNat_eq_one_iff]
      omega
    · rw [Bool.eq_iff_iff, getLsbD_iff, condition, ← toNat_eq_one_iff]
      omega
    · rw [Bool.eq_iff_iff, getLsbD_iff, condition, ← toNat_eq_one_iff]
      omega
    · exact (List.countP_le_length.trans htanks).trans_lt (by decide)
    · exact (List.countP_le_length.trans hmeters).trans_lt (by decide)
    · exact (byteOf_small (Nat.lt_of_le_of_lt (heldTerms_length_le s) (by decide))).trans (heldTerms_length s)

end Sys2Proof.Proofs
end

section
/-! SUPPORT. Answers: the contents of a query's answer by its kind, and the parts that carry them (R191, R192). -/

namespace Sys2Proof.Laws

open Machine Safety

variable {s : State} {q : Query}

theorem keyOfCode_eq_some_iff {n : Nat} {k : Key} : keyOfCode n = some k ↔ n = keyCode k := by
  obtain ⟨station, index⟩ := k
  have hindex := index.isLt
  have hstation := station.isLt
  unfold keyOfCode keyCode
  split
  · simp only [Option.some.injEq, Key.mk.injEq, Fin.ext_iff, Fin.val_ofNat]
    omega
  · simp only [reduceCtorEq, false_iff]
    omega

theorem keyOfCode_keyCode (k : Key) : keyOfCode (keyCode k) = some k := keyOfCode_eq_some_iff.2 rfl

/-! ### What an answer holds, by its kind -/

theorem answerContents_parcel {p : ParcelNo} {c : Copy ParcelDecl} (hk : q.kind = .parcel)
    (hp : q.subject.toNat = p.val) (hc : s.parcels[p].decl.current = some c) :
    answerContents s q = some [parcelPart1 s.parcels[p] c.contents, parcelPart2 s.parcels[p], parcelPart3 s p] := by
  have hlt : q.subject.toNat < 8 := hp ▸ p.isLt
  obtain rfl : p = ⟨q.subject.toNat, hlt⟩ := Fin.ext hp.symm
  unfold answerContents
  simp only [hk, dif_pos hlt]
  split
  · next x hx =>
    obtain rfl : x = c := Option.some.inj (hx.symm.trans hc)
    rfl
  · next hx => exact absurd (hx.symm.trans hc) nofun

theorem answerContents_tank {k : Key} {r : TankRec} {w : TankWork} (hk : q.kind = .tank)
    (hsubject : q.subject.toNat = keyCode k) (hr : s.tank? k = some r) (hw : r.work = some w) :
    answerContents s q = some [tankPart r w] := by
  unfold answerContents
  simp only [hk, hsubject, keyOfCode_keyCode, Option.bind_some, hr, hw, Option.map_some]

theorem answerContents_meter {k : Key} {r : MeterRec} {w : MeterWork} (hk : q.kind = .meter)
    (hsubject : q.subject.toNat = keyCode k) (hr : s.meter? k = some r) (hw : r.work = some w) :
    answerContents s q = some [meterPart1 r w, meterPart2 w] := by
  unfold answerContents
  simp only [hk, hsubject, keyOfCode_keyCode, Option.bind_some, hr, hw, Option.map_some]

theorem answerContents_term {t : TermPos} (hk : q.kind = .term) (ht : q.subject.toNat = t.val)
    (hc : s.terms[t].decl.current.isSome = true) : answerContents s q = some [termPart s.terms[t]] := by
  have hlt : q.subject.toNat < 24 := ht ▸ t.isLt
  obtain rfl : t = ⟨q.subject.toNat, hlt⟩ := Fin.ext ht.symm
  unfold answerContents
  simp only [hk, dif_pos hlt]
  exact if_pos hc

theorem answerContents_node (hk : q.kind = .node) : answerContents s q = some [nodePart s] := by
  unfold answerContents
  simp only [hk]

theorem answerContents_timer {i : TimerNo} (hk : q.kind = .timer) (hi : q.subject.toNat = i.val) :
    answerContents s q = some [timerPart s i] := by
  have hlt : q.subject.toNat < 4 := hi ▸ i.isLt
  obtain rfl : i = ⟨q.subject.toNat, hlt⟩ := Fin.ext hi.symm
  unfold answerContents
  simp only [hk, dif_pos hlt]

/-! ### Subjects that name nothing (R192) -/

theorem answerContents_parcel_none_iff (hk : q.kind = .parcel) : answerContents s q = none
    ↔ ∀ p : ParcelNo, q.subject.toNat = p.val → s.parcels[p].decl.current = none := by
  constructor
  · intro hnone p hp
    cases hc : s.parcels[p].decl.current with
    | none => rfl
    | some c => exact absurd (hnone.symm.trans (answerContents_parcel hk hp hc)) nofun
  · intro h
    unfold answerContents
    simp only [hk]
    split
    · next hlt =>
      split
      · next c hc => exact absurd ((h ⟨_, hlt⟩ rfl).symm.trans hc) nofun
      · rfl
    · rfl

theorem answerContents_tank_none_iff (hk : q.kind = .tank) (hs : WorkWithCurrent s) : answerContents s q = none
    ↔ ∀ k r, q.subject.toNat = keyCode k → s.tank? k = some r → r.decl.current = none := by
  have held {r : TankRec} {k : Key} (hr : s.tank? k = some r) : r.work.isSome = r.decl.current.isSome :=
    hs.1 r (findRec_mem hr)
  constructor
  · intro hnone k r hsubject hr
    cases hw : r.work with
    | none => simpa [hw] using (held hr).symm
    | some w => exact absurd (hnone.symm.trans (answerContents_tank hk hsubject hr hw)) nofun
  · intro h
    unfold answerContents
    simp only [hk]
    split
    · next r hbind =>
      obtain ⟨k, hkey, hr⟩ := Option.bind_eq_some_iff.1 hbind
      have hnone := held hr
      rw [h k r (keyOfCode_eq_some_iff.1 hkey) hr] at hnone
      rw [Option.isSome_eq_false_iff.1 hnone |> Option.isNone_iff_eq_none.1]
      rfl
    · rfl

theorem answerContents_meter_none_iff (hk : q.kind = .meter) (hs : WorkWithCurrent s) : answerContents s q = none
    ↔ ∀ k r, q.subject.toNat = keyCode k → s.meter? k = some r → r.decl.current = none := by
  have held {r : MeterRec} {k : Key} (hr : s.meter? k = some r) : r.work.isSome = r.decl.current.isSome :=
    hs.2 r (findRec_mem hr)
  constructor
  · intro hnone k r hsubject hr
    cases hw : r.work with
    | none => simpa [hw] using (held hr).symm
    | some w => exact absurd (hnone.symm.trans (answerContents_meter hk hsubject hr hw)) nofun
  · intro h
    unfold answerContents
    simp only [hk]
    split
    · next r hbind =>
      obtain ⟨k, hkey, hr⟩ := Option.bind_eq_some_iff.1 hbind
      have hnone := held hr
      rw [h k r (keyOfCode_eq_some_iff.1 hkey) hr] at hnone
      rw [Option.isSome_eq_false_iff.1 hnone |> Option.isNone_iff_eq_none.1]
      rfl
    · rfl

theorem answerContents_term_none_iff (hk : q.kind = .term) : answerContents s q = none
    ↔ ∀ t : TermPos, q.subject.toNat = t.val → s.terms[t].decl.current = none := by
  constructor
  · intro hnone t ht
    cases hc : s.terms[t].decl.current with
    | none => rfl
    | some c => exact absurd (hnone.symm.trans (answerContents_term hk ht (by rw [hc]; rfl))) nofun
  · intro h
    unfold answerContents
    simp only [hk]
    split
    · next hlt => exact if_neg (by rw [show s.terms[q.subject.toNat].decl.current = none from h ⟨_, hlt⟩ rfl]; decide)
    · rfl

theorem answerContents_timer_none_iff (hk : q.kind = .timer) : answerContents s q = none ↔ 4 ≤ q.subject.toNat := by
  constructor
  · intro hnone
    refine Nat.not_lt.1 fun hlt => ?_
    exact absurd (hnone.symm.trans (answerContents_timer (i := ⟨_, hlt⟩) hk rfl)) nofun
  · intro h
    unfold answerContents
    simp only [hk, dif_neg (Nat.not_lt.2 h)]

/-! ### The parts of an answer -/

theorem answerParts_none (h : answerContents s q = none) : answerParts s q = [answerHead q true 1 1] := by
  unfold answerParts
  rw [h]

theorem answerParts_some {parts : List (List Byte)} (h : answerContents s q = some parts) :
    answerParts s q = parts.mapIdx fun i c => answerHead q false (i + 1) parts.length ++ c := by
  unfold answerParts
  rw [h]

/-- A part's bytes, after the three of its head. -/
theorem byteAt_head (absent : Bool) (part count : Nat) (l : List Byte) (j : Nat) :
    byteAt (answerHead q absent part count ++ l) (j + 3) = byteAt l j := rfl

theorem unsignedAt_head (absent : Bool) (part count : Nat) (l : List Byte) (j n : Nat) :
    unsignedAt (answerHead q absent part count ++ l) (j + 3) n = unsignedAt l j n := by
  induction n with
  | zero => rfl
  | succ n ih => rw [unsignedAt, unsignedAt, ih, Nat.add_right_comm, byteAt_head]

/-- The two volumes of a TANK answer in seven bytes (R193). -/
theorem tankPart_volumes (r : TankRec) (w : TankWork) (hcurrent : w.current.getD 0 < 134217728)
    (hopening : w.opening.getD 0 < 134217728) :
    unsignedAt (tankPart r w) 6 7 = w.current.getD 0 * 134217728 + w.opening.getD 0 := by
  have field : unsignedAt (tankPart r w) 6 7
      = unsignedAt (unsignedBytes 7 (w.current.getD 0 * 134217728 + w.opening.getD 0)) 0 7 := rfl
  rw [field, unsignedAt_unsignedBytes]
  exact Nat.mod_eq_of_lt (by omega)

end Sys2Proof.Laws
end

section
/-! PROOFS. The parts of an answer. -/

namespace Sys2Proof.Proofs

open Machine Safety Laws

/-- Settles O53: absent by the kind of the query, and else the parts under their heads. -/
theorem answersCarryTheirParts : Obligations.AnswersCarryTheirParts := by
  refine ⟨fun s q hs => ?_, fun r w hcurrent hopening => ?_⟩
  · intro absent kind lengths
    have hkind : queryKindCode q.kind = kind := by cases hk : q.kind <;> simp only [kind, hk] <;> rfl
    have hlengths : contentLengths q.kind = lengths := by cases hk : q.kind <;> simp only [lengths, hk] <;> rfl
    have habsent : answerContents s q = none ↔ absent := by
      cases hk : q.kind with
      | parcel => simpa only [absent, hk] using answerContents_parcel_none_iff hk
      | tank => simpa only [absent, hk] using answerContents_tank_none_iff hk hs
      | meter => simpa only [absent, hk] using answerContents_meter_none_iff hk hs
      | term => simpa only [absent, hk] using answerContents_term_none_iff hk
      | node => simp [absent, hk, answerContents_node hk]
      | timer => simpa only [absent, hk] using answerContents_timer_none_iff hk
    refine ⟨fun h => ?_, fun h => ?_⟩
    · rw [answerParts_none (habsent.2 h), answerHead, hkind]
      rfl
    · obtain ⟨parts, hparts⟩ := Option.ne_none_iff_exists'.1 (mt habsent.1 h)
      have hmap := (answerContents_lengths hparts).trans hlengths
      have hcount : parts.length = lengths.length := by rw [← hmap, List.length_map]
      rw [answerParts_some hparts]
      refine ⟨?_, fun i part hpart => ?_⟩
      · rw [← hmap]
        refine List.ext_getElem? fun i => ?_
        simp only [List.getElem?_map, List.getElem?_mapIdx, Option.map_map]
        refine congrArg (fun f => Option.map f parts[i]?) (funext fun c => ?_)
        simp [answerHead]
      · rw [List.getElem?_mapIdx, Option.map_eq_some_iff] at hpart
        obtain ⟨c, -, rfl⟩ := hpart
        rw [← hkind, ← hcount]
        rfl
  · rw [tankPart_volumes r w (by omega) (by omega)]
    omega

end Sys2Proof.Proofs
end

section
/-! SUPPORT. The contents of an answer's parts, byte by byte (R193 to R195, Table 11-2). -/

namespace Sys2Proof.Laws

open Machine Safety

variable {s : State}

/-! ### Parts, and the numbers in them -/

variable {q : Query}

theorem answerParts_one {a : List Byte} (h : answerContents s q = some [a]) :
    answerParts s q = [answerHead q false 1 1 ++ a] := answerParts_some h

theorem answerParts_two {a b : List Byte} (h : answerContents s q = some [a, b]) :
    answerParts s q = [answerHead q false 1 2 ++ a, answerHead q false 2 2 ++ b] := answerParts_some h

theorem answerParts_three {a b c : List Byte} (h : answerContents s q = some [a, b, c]) :
    answerParts s q = [answerHead q false 1 3 ++ a, answerHead q false 2 3 ++ b, answerHead q false 3 3 ++ c] :=
  answerParts_some h

/-- Bit `n` of a byte is the flag `b`. -/
abbrev HasBit (x : Byte) (n : Nat) (b : Bool) : Prop := x.toNat / 2 ^ n % 2 = b.toNat

theorem unsignedAt_small {k v : Nat} (h : v < 256 ^ k) : unsignedAt (unsignedBytes k v) 0 k = v := by
  rw [unsignedAt_unsignedBytes, Nat.mod_eq_of_lt h]

theorem signed16At_head (absent : Bool) (part count : Nat) (l : List Byte) (j : Nat) :
    signed16At (answerHead q absent part count ++ l) (j + 3) = signed16At l j := by
  simp only [signed16At, unsignedAt_head]

/-! ### PARCEL -/

/-- The mark field of a PARCEL answer, 0 with no mark pending (Table 11-2). -/
def markField (r : ParcelRec) : Nat := match r.pendingMark with | some m => markCode m.kind | none => 0

theorem markField_le (r : ParcelRec) : markField r ≤ 3 := by
  unfold markField
  split
  · next m _ => cases m.kind <;> decide
  · decide

theorem parcelFlags_toNat (r : ParcelRec) (d : ParcelDecl) : (byteAt (parcelPart1 r d) 0).toNat
    = stateCode r.state + 8 * r.decl.staged.isSome.toNat + 16 * d.depthCode.val + 64 * markField r :=
  byteOf_small (n := stateCode r.state + 8 * flag r.decl.staged.isSome + 16 * d.depthCode.val + 64 * markField r) (by
    have := stateCode_le r.state
    have := Bool.toNat_le r.decl.staged.isSome
    have := d.depthCode.isLt
    have := markField_le r
    simp only [flag]
    omega)

/-- What a reader takes from the flags of a PARCEL answer's part 1. -/
theorem parcelFlags_read (r : ParcelRec) (d : ParcelDecl) :
    (byteAt (parcelPart1 r d) 0).toNat % 8 = stateCode r.state
      ∧ HasBit (byteAt (parcelPart1 r d) 0) 3 r.decl.staged.isSome
      ∧ (byteAt (parcelPart1 r d) 0).toNat / 16 % 4 = d.depthCode.val
      ∧ (byteAt (parcelPart1 r d) 0).toNat / 64 = markField r := by
  have := stateCode_le r.state
  have := Bool.toNat_le r.decl.staged.isSome
  have := d.depthCode.isLt
  rw [HasBit, parcelFlags_toNat]
  omega

theorem parcelMark_expected (r : ParcelRec) (d : ParcelDecl) : (byteAt (parcelPart1 r d) 12).toNat
    = match r.pendingMark with | some m => m.expected.toNat | none => 0 := by
  unfold parcelPart1
  cases r.pendingMark <;> rfl

theorem parcelBits_toNat (d : ParcelDecl) : (parcelBits d).toNat = (decide (d.direction = .discharge)).toNat
    + 2 * d.cls.val + 8 * (decide (d.basis = .meter)).toNat + 16 * d.option.val + 64 * d.mask.toNat := by
  have coded : parcelBits d = byteOf ((decide (d.direction = .discharge)).toNat + 2 * d.cls.val
      + 8 * (decide (d.basis = .meter)).toNat + 16 * d.option.val + 64 * d.mask.toNat) := by
    unfold parcelBits
    cases d.direction <;> cases d.basis <;> rfl
  rw [coded]
  refine byteOf_small ?_
  have := Bool.toNat_le (decide (d.direction = .discharge))
  have := Bool.toNat_le (decide (d.basis = .meter))
  have := Bool.toNat_le d.mask
  have := d.cls.isLt
  have := d.option.isLt
  omega

/-- What a reader takes from the declaration bits of a PARCEL answer. -/
theorem parcelBits_read (d : ParcelDecl) :
    HasBit (parcelBits d) 0 (decide (d.direction = .discharge)) ∧ (parcelBits d).toNat / 2 % 4 = d.cls.val
      ∧ HasBit (parcelBits d) 3 (decide (d.basis = .meter)) ∧ (parcelBits d).toNat / 16 % 4 = d.option.val
      ∧ HasBit (parcelBits d) 6 d.mask := by
  have := Bool.toNat_le (decide (d.direction = .discharge))
  have := Bool.toNat_le (decide (d.basis = .meter))
  have := Bool.toNat_le d.mask
  have := d.cls.isLt
  have := d.option.isLt
  simp only [HasBit, parcelBits_toNat]
  omega

theorem publishedFlags_toNat (r : ParcelRec) : (byteAt (parcelPart2 r) 0).toNat = stateCode r.published.state
    + 64 * r.published.figures.saturated.toNat + 128 * r.published.closedWhileHeld.toNat := byteOf_small (by
  have := stateCode_le r.published.state
  have := Bool.toNat_le r.published.figures.saturated
  have := Bool.toNat_le r.published.closedWhileHeld
  simp only [flag]
  omega)

theorem publishedFlags_read (r : ParcelRec) :
    (byteAt (parcelPart2 r) 0).toNat % 16 = stateCode r.published.state
      ∧ HasBit (byteAt (parcelPart2 r) 0) 6 r.published.figures.saturated
      ∧ HasBit (byteAt (parcelPart2 r) 0) 7 r.published.closedWhileHeld := by
  have := stateCode_le r.published.state
  have := Bool.toNat_le r.published.figures.saturated
  have := Bool.toNat_le r.published.closedWhileHeld
  simp only [HasBit, publishedFlags_toNat]
  omega

theorem conditionFlags_toNat (s : State) (p : ParcelNo) : (byteAt (parcelPart3 s p) 0).toNat
    = s.parcels[p].excursion.toNat + 2 * s.parcels[p].peerDiverge.toNat + 4 * s.parcels[p].holds.tankStale.toNat
      + 8 * s.parcels[p].holds.meterStale.toNat + 16 * s.parcels[p].holds.esd.toNat
      + 32 * s.parcels[p].holds.excursionHold.toNat + 64 * s.parcels[p].saturation.toNat
      + 128 * s.parcels[p].closing.toNat := byteOf_small (by
  have := Bool.toNat_le s.parcels[p].excursion
  have := Bool.toNat_le s.parcels[p].peerDiverge
  have := Bool.toNat_le s.parcels[p].holds.tankStale
  have := Bool.toNat_le s.parcels[p].holds.meterStale
  have := Bool.toNat_le s.parcels[p].holds.esd
  have := Bool.toNat_le s.parcels[p].holds.excursionHold
  have := Bool.toNat_le s.parcels[p].saturation
  have := Bool.toNat_le s.parcels[p].closing
  simp only [flag]
  omega)

theorem conditionFlags_read (s : State) (p : ParcelNo) :
    HasBit (byteAt (parcelPart3 s p) 0) 0 s.parcels[p].excursion
      ∧ HasBit (byteAt (parcelPart3 s p) 0) 1 s.parcels[p].peerDiverge
      ∧ HasBit (byteAt (parcelPart3 s p) 0) 2 s.parcels[p].holds.tankStale
      ∧ HasBit (byteAt (parcelPart3 s p) 0) 3 s.parcels[p].holds.meterStale
      ∧ HasBit (byteAt (parcelPart3 s p) 0) 4 s.parcels[p].holds.esd
      ∧ HasBit (byteAt (parcelPart3 s p) 0) 5 s.parcels[p].holds.excursionHold
      ∧ HasBit (byteAt (parcelPart3 s p) 0) 6 s.parcels[p].saturation
      ∧ HasBit (byteAt (parcelPart3 s p) 0) 7 s.parcels[p].closing := by
  have := Bool.toNat_le s.parcels[p].excursion
  have := Bool.toNat_le s.parcels[p].peerDiverge
  have := Bool.toNat_le s.parcels[p].holds.tankStale
  have := Bool.toNat_le s.parcels[p].holds.meterStale
  have := Bool.toNat_le s.parcels[p].holds.esd
  have := Bool.toNat_le s.parcels[p].holds.excursionHold
  have := Bool.toNat_le s.parcels[p].saturation
  have := Bool.toNat_le s.parcels[p].closing
  simp only [HasBit, conditionFlags_toNat]
  omega

theorem highestEntry_mem {l : List PeerEntry} {e : PeerEntry} (h : highestEntry l = some e) : e ∈ l := by
  induction l with
  | nil => cases h
  | cons x rest ih =>
    rw [highestEntry] at h
    split at h
    · next y hy =>
      split at h
      · cases h
        exact List.mem_cons_of_mem _ (ih hy)
      · cases h
        exact List.mem_cons_self
    · cases h
      exact List.mem_cons_self

/-- The entry of the highest count, and of those the lowest address, is found (R154). -/
theorem highestEntry_eq {l : List PeerEntry} {e : PeerEntry} (hsorted : l.Pairwise fun x y => x.peer < y.peer)
    (he : e ∈ l) (hmax : ∀ o ∈ l, o.count < e.count ∨ (o.count = e.count ∧ e.peer ≤ o.peer)) :
    highestEntry l = some e := by
  induction l with
  | nil => cases he
  | cons x rest ih =>
    obtain ⟨hx, hrest⟩ := List.pairwise_cons.1 hsorted
    rw [highestEntry]
    rcases List.mem_cons.1 he with rfl | htail
    · split
      · next y hy =>
        have hle : y.count ≤ e.count := by
          rcases hmax y (List.mem_cons_of_mem _ (highestEntry_mem hy)) with h | ⟨h, -⟩ <;> omega
        exact if_neg (by omega)
      · rfl
    · rw [ih hrest htail fun o ho => hmax o (List.mem_cons_of_mem _ ho)]
      refine if_pos ?_
      rcases hmax x (List.mem_cons_self) with h | ⟨-, hle⟩
      · exact h
      · exact absurd (hx e htail) (not_lt.2 hle)

/-- A parcel's peer entries stand in ascending peer address. -/
theorem peersOf_pairwise (hs : keysRising peerOrd s.peers = true) (p : ParcelNo) :
    (peersOf s p).Pairwise fun x y => x.peer < y.peer := by
  refine List.Pairwise.imp_of_mem (fun {x y} hx hy hlt => ?_) (((keysRising_iff _).1 hs).filter _)
  have hpx : x.parcel = p := by simpa using (List.mem_filter.1 hx).2
  have hpy : y.parcel = p := by simpa using (List.mem_filter.1 hy).2
  simp only [peerOrd, hpx, hpy] at hlt
  rw [Fin.lt_def]
  omega

theorem peersOf_length_le (hs : s.peers.length ≤ 16) (p : ParcelNo) : (peersOf s p).length ≤ 16 :=
  (List.length_filter_le _ _).trans hs

/-- The state field of the highest entry, 0 with no entry. -/
def topState (s : State) (p : ParcelNo) : Nat :=
  match highestEntry (peersOf s p) with | some e => stateCode e.state | none => 0

theorem topState_le (s : State) (p : ParcelNo) : topState s p ≤ 4 := by
  unfold topState
  split
  · exact stateCode_le _
  · exact Nat.zero_le _

theorem differs_toNat (hs : s.peers.length ≤ 16) (p : ParcelNo) : (byteAt (parcelPart3 s p) 2).toNat
    = (peersOf s p).countP (·.planDiffers) + 32 * topState s p := by
  refine byteOf_small (n := (peersOf s p).countP (·.planDiffers) + 32 * topState s p) ?_
  have := (List.countP_le_length (p := (·.planDiffers))).trans (peersOf_length_le hs p)
  have := topState_le s p
  omega

theorem differs_read (hs : s.peers.length ≤ 16) (p : ParcelNo) :
    (byteAt (parcelPart3 s p) 2).toNat % 32 = (peersOf s p).countP (·.planDiffers)
      ∧ (byteAt (parcelPart3 s p) 2).toNat / 32 = topState s p := by
  have := (List.countP_le_length (p := (·.planDiffers))).trans (peersOf_length_le hs p)
  rw [differs_toNat hs]
  omega

theorem parcelPart3_top {p : ParcelNo} {e : PeerEntry} (h : highestEntry (peersOf s p) = some e) :
    byteAt (parcelPart3 s p) 3 = byteOf (e.peer.val + 64 * e.count)
      ∧ signed32At (parcelPart3 s p) 4 = signed32At (signedBytes 4 e.d) 0 := by
  unfold parcelPart3
  simp only [h]
  exact ⟨rfl, rfl⟩

theorem parcelPart3_no_entry {p : ParcelNo} (h : highestEntry (peersOf s p) = none) :
    byteAt (parcelPart3 s p) 3 = byteOf 0
      ∧ signed32At (parcelPart3 s p) 4 = signed32At (signedBytes 4 0) 0 := by
  unfold parcelPart3
  simp only [h]
  exact ⟨rfl, rfl⟩

/-! ### TANK -/

theorem parcelCode_le (p : Option ParcelNo) : parcelCode p ≤ 15 := by
  cases p with
  | none => exact Nat.le_refl _
  | some p => exact (Nat.le_of_lt p.isLt).trans (by decide)

theorem tankFlags_toNat (r : TankRec) {w : TankWork} (h : w.confirm ≤ 2) : (byteAt (tankPart r w) 0).toNat
    = (decide (w.side = .shore)).toNat + 2 * w.gaugeInvalid.toNat + 4 * w.volumeClamped.toNat
      + 8 * w.tempClamped.toNat + 16 * w.rebased.toNat + 32 * w.confirm + 128 * r.decl.staged.isSome.toNat := by
  have coded : byteAt (tankPart r w) 0 = byteOf ((decide (w.side = .shore)).toNat + 2 * w.gaugeInvalid.toNat
      + 4 * w.volumeClamped.toNat + 8 * w.tempClamped.toNat + 16 * w.rebased.toNat + 32 * w.confirm
      + 128 * r.decl.staged.isSome.toNat) := by
    unfold tankPart
    cases w.side <;> rfl
  rw [coded]
  refine byteOf_small ?_
  have := Bool.toNat_le (decide (w.side = .shore))
  have := Bool.toNat_le w.gaugeInvalid
  have := Bool.toNat_le w.volumeClamped
  have := Bool.toNat_le w.tempClamped
  have := Bool.toNat_le w.rebased
  have := Bool.toNat_le r.decl.staged.isSome
  omega

theorem tankHeld_toNat (r : TankRec) (w : TankWork) : (byteAt (tankPart r w) 1).toNat
    = parcelCode w.parcel + 16 * w.reading.isSome.toNat + 32 * w.current.isSome.toNat
      + 64 * w.opening.isSome.toNat := byteOf_small (by
  have := parcelCode_le w.parcel
  have := Bool.toNat_le w.reading.isSome
  have := Bool.toNat_le w.current.isSome
  have := Bool.toNat_le w.opening.isSome
  simp only [flag]
  omega)

theorem tankFlags_read (r : TankRec) {w : TankWork} (h : w.confirm ≤ 2) :
    HasBit (byteAt (tankPart r w) 0) 0 (decide (w.side = .shore)) ∧ HasBit (byteAt (tankPart r w) 0) 1 w.gaugeInvalid
      ∧ HasBit (byteAt (tankPart r w) 0) 2 w.volumeClamped ∧ HasBit (byteAt (tankPart r w) 0) 3 w.tempClamped
      ∧ HasBit (byteAt (tankPart r w) 0) 4 w.rebased ∧ (byteAt (tankPart r w) 0).toNat / 32 % 4 = w.confirm
      ∧ HasBit (byteAt (tankPart r w) 0) 7 r.decl.staged.isSome := by
  have := Bool.toNat_le (decide (w.side = .shore))
  have := Bool.toNat_le w.gaugeInvalid
  have := Bool.toNat_le w.volumeClamped
  have := Bool.toNat_le w.tempClamped
  have := Bool.toNat_le w.rebased
  have := Bool.toNat_le r.decl.staged.isSome
  simp only [HasBit, tankFlags_toNat r h]
  omega

theorem tankHeld_read (r : TankRec) (w : TankWork) :
    (byteAt (tankPart r w) 1).toNat % 16 = parcelCode w.parcel ∧ HasBit (byteAt (tankPart r w) 1) 4 w.reading.isSome
      ∧ HasBit (byteAt (tankPart r w) 1) 5 w.current.isSome
      ∧ HasBit (byteAt (tankPart r w) 1) 6 w.opening.isSome := by
  have := parcelCode_le w.parcel
  have := Bool.toNat_le w.reading.isSome
  have := Bool.toNat_le w.current.isSome
  have := Bool.toNat_le w.opening.isSome
  simp only [HasBit, tankHeld_toNat]
  omega

theorem tankPart_no_temp (r : TankRec) {w : TankWork} (h : w.reading = none) : unsignedAt (tankPart r w) 4 2 = 0 := by
  have field : unsignedAt (tankPart r w) 4 2 = unsignedAt (unsignedBytes 2 0) 0 2 := by
    rw [tankPart, h]
    rfl
  rw [field, unsignedAt_unsignedBytes, Nat.zero_mod]

theorem tankPart_temp (r : TankRec) {w : TankWork} {g : GaugeReading} (h : w.reading = some g) :
    signed16At (tankPart r w) 4 = signed16At (signedBytes 2 g.temp) 0 := by
  rw [tankPart, h]
  rfl

/-! ### METER -/

theorem meterFlags_toNat (r : MeterRec) (w : MeterWork) : (byteAt (meterPart1 r w) 0).toNat
    = w.breakSeen.toNat + 2 * w.deferred.toNat + 4 * w.tempClamped.toNat + 8 * w.reading.isSome.toNat
      + 16 * w.baseline.isSome.toNat + 32 * r.decl.staged.isSome.toNat := byteOf_small (by
  have := Bool.toNat_le w.breakSeen
  have := Bool.toNat_le w.deferred
  have := Bool.toNat_le w.tempClamped
  have := Bool.toNat_le w.reading.isSome
  have := Bool.toNat_le w.baseline.isSome
  have := Bool.toNat_le r.decl.staged.isSome
  simp only [flag]
  omega)

theorem meterFlags_read (r : MeterRec) (w : MeterWork) :
    HasBit (byteAt (meterPart1 r w) 0) 0 w.breakSeen ∧ HasBit (byteAt (meterPart1 r w) 0) 1 w.deferred
      ∧ HasBit (byteAt (meterPart1 r w) 0) 2 w.tempClamped ∧ HasBit (byteAt (meterPart1 r w) 0) 3 w.reading.isSome
      ∧ HasBit (byteAt (meterPart1 r w) 0) 4 w.baseline.isSome
      ∧ HasBit (byteAt (meterPart1 r w) 0) 5 r.decl.staged.isSome := by
  have := Bool.toNat_le w.breakSeen
  have := Bool.toNat_le w.deferred
  have := Bool.toNat_le w.tempClamped
  have := Bool.toNat_le w.reading.isSome
  have := Bool.toNat_le w.baseline.isSome
  have := Bool.toNat_le r.decl.staged.isSome
  simp only [HasBit, meterFlags_toNat]
  omega

theorem meterPart1_no_temp (r : MeterRec) {w : MeterWork} (h : w.reading = none) :
    unsignedAt (meterPart1 r w) 8 2 = 0 := by
  have field : unsignedAt (meterPart1 r w) 8 2 = unsignedAt (unsignedBytes 2 0) 0 2 := by
    rw [meterPart1, h]
    rfl
  rw [field, unsignedAt_unsignedBytes, Nat.zero_mod]

theorem meterPart1_temp (r : MeterRec) {w : MeterWork} {g : MeterReading} (h : w.reading = some g) :
    signed16At (meterPart1 r w) 8 = signed16At (signedBytes 2 g.temp) 0 := by
  rw [meterPart1, h]
  rfl

theorem meterPart1_cumulative (r : MeterRec) (w : MeterWork) : unsignedAt (meterPart1 r w) 5 3
    = match w.reading with | some g => g.cumulative.toNat | none => 0 := by
  unfold meterPart1
  cases w.reading with
  | none => exact unsignedAt_small (k := 3) (v := 0) (by decide)
  | some g => exact unsignedAt_small (k := 3) (v := g.cumulative.toNat) g.cumulative.isLt

theorem meterPart1_baseline (r : MeterRec) (w : MeterWork) : unsignedAt (meterPart1 r w) 10 3
    = match w.baseline with | some b => b.toNat | none => 0 := by
  unfold meterPart1
  cases w.baseline with
  | none => exact unsignedAt_small (k := 3) (v := 0) (by decide)
  | some b => exact unsignedAt_small (k := 3) (v := b.toNat) b.isLt

theorem meterPart1_factor (r : MeterRec) {w : MeterWork} (hlow : 95000 ≤ w.factor) (hhigh : w.factor ≤ 105000) :
    unsignedAt (meterPart1 r w) 3 2 + 95000 = w.factor := by
  have field : unsignedAt (meterPart1 r w) 3 2 = unsignedAt (unsignedBytes 2 (w.factor - 95000)) 0 2 := rfl
  rw [field, unsignedAt_small (k := 2) (by omega)]
  omega

theorem meterPart2_accumulators {w : MeterWork} (hrouted : w.routed ≤ maxAccumulator)
    (hconflict : w.conflict ≤ maxAccumulator) (hunrouted : w.unrouted ≤ maxAccumulator) :
    unsignedAt (meterPart2 w) 0 4 = w.routed ∧ unsignedAt (meterPart2 w) 4 4 = w.conflict
      ∧ unsignedAt (meterPart2 w) 8 4 = w.unrouted := by
  have fits {n : Nat} (h : n ≤ maxAccumulator) : unsignedAt (unsignedBytes 4 n) 0 4 = n :=
    unsignedAt_small (k := 4) (Nat.lt_of_le_of_lt h (by decide))
  exact ⟨(rfl : _ = unsignedAt (unsignedBytes 4 w.routed) 0 4).trans (fits hrouted),
    (rfl : _ = unsignedAt (unsignedBytes 4 w.conflict) 0 4).trans (fits hconflict),
    (rfl : _ = unsignedAt (unsignedBytes 4 w.unrouted) 0 4).trans (fits hunrouted)⟩

theorem meterPart2_residue {w : MeterWork} (h : w.residue < 10 ^ 10) :
    (byteAt (meterPart2 w) 12).toNat = w.residue / 100000000 := by
  have field : byteAt (meterPart2 w) 12 = byteOf (w.residue / 10 ^ 8) := rfl
  rw [field, byteOf_small (by omega), show (10 : Nat) ^ 8 = 100000000 from rfl]

/-! ### TERM -/

theorem termFlags_toNat (r : TermRec) : (byteAt (termPart r) 0).toNat
    = r.term.isSome.toNat + 2 * r.decl.staged.isSome.toNat := byteOf_small (by
  have := Bool.toNat_le r.term.isSome
  have := Bool.toNat_le r.decl.staged.isSome
  simp only [flag]
  omega)

theorem termFlags_read (r : TermRec) : HasBit (byteAt (termPart r) 0) 0 r.term.isSome
    ∧ HasBit (byteAt (termPart r) 0) 1 r.decl.staged.isSome := by
  have := Bool.toNat_le r.term.isSome
  have := Bool.toNat_le r.decl.staged.isSome
  simp only [HasBit, termFlags_toNat]
  omega

theorem byteAt_zeros (n i : Nat) : byteAt (List.replicate n 0) i = 0 := by
  simp [byteAt, List.getD_eq_getElem?_getD, List.getElem?_replicate]
  split <;> rfl

theorem byteAt_take {l : List Byte} {n i : Nat} (h : i < n) : byteAt (l.take n) i = byteAt l i := by
  simp [byteAt, List.getD_eq_getElem?_getD, h]

/-- The two bytes of a literal position: the literal's, or 0 beyond the last literal (Table 11-2). -/
theorem literalBytes_at (ls : List Literal) (n i : Nat) :
    (∀ l, ls[i]? = some l →
      byteAt (ls.flatMap literalBytes ++ List.replicate n 0) (2 * i)
          = byteOf (l.station.val * 4 + (if l.needOpen then 0 else 1))
        ∧ byteAt (ls.flatMap literalBytes ++ List.replicate n 0) (2 * i + 1) = byteOf l.valve.val)
    ∧ (ls[i]? = none → byteAt (ls.flatMap literalBytes ++ List.replicate n 0) (2 * i) = 0
        ∧ byteAt (ls.flatMap literalBytes ++ List.replicate n 0) (2 * i + 1) = 0) := by
  induction ls generalizing i with
  | nil => exact ⟨fun l hl => (nomatch hl), fun _ => ⟨byteAt_zeros n _, byteAt_zeros n _⟩⟩
  | cons x rest ih =>
    cases i with
    | zero =>
      refine ⟨fun l hl => ?_, nofun⟩
      obtain rfl : x = l := by simpa using hl
      exact ⟨rfl, rfl⟩
    | succ i => exact ih i

theorem termPart_empty {r : TermRec} (h : r.term = none) : termPart r
    = [byteOf (flag r.term.isSome + 2 * flag r.decl.staged.isSome), r.decl.currentRev, r.decl.stagedRev, 0,
        byteOf noParcelCode] ++ List.replicate 8 0 := by
  rw [termPart]
  simp only [h]
  rfl

theorem termPart_held {r : TermRec} {v : Term} (h : r.term = some v) : termPart r
    = [byteOf (flag r.term.isSome + 2 * flag r.decl.staged.isSome), r.decl.currentRev, r.decl.stagedRev,
        byteOf (keyCode v.meter), byteOf (v.parcel.val + 16 * v.literals.length)]
      ++ (v.literals.flatMap literalBytes ++ List.replicate 8 0).take 8 := by
  rw [termPart]
  simp only [h]
  rfl

theorem byteAt_five (a b c d e : Byte) (l : List Byte) (j : Nat) :
    byteAt ([a, b, c, d, e] ++ l) (5 + j) = byteAt l j := by
  rw [Nat.add_comm]
  rfl

theorem termPart_zeros {r : TermRec} (h : r.term = none) (i : Nat) : byteAt (termPart r) (5 + i) = 0 := by
  rw [termPart_empty h, byteAt_five, byteAt_zeros]

theorem termPart_literals {r : TermRec} {v : Term} (h : r.term = some v) {j : Nat} (hj : j < 8) :
    byteAt (termPart r) (5 + j) = byteAt (v.literals.flatMap literalBytes ++ List.replicate 8 0) j := by
  rw [termPart_held h, byteAt_five, byteAt_take hj]

theorem literalCode_lt (l : Literal) : l.station.val * 4 + (if l.needOpen then 0 else 1) < 256 := by
  have := l.station.isLt
  split <;> omega

/-! ### NODE and TIMER -/

theorem nodeFlags_toNat (s : State) : (byteAt (nodePart s) 0).toNat = roleCode s.sr.role
    + 16 * (decide (s.sr.esdLevel = .asserted)).toNat + 32 * s.aq.withheld.toNat + 64 * s.ee.overrun.toNat :=
  byteOf_small (by
    have := roleCode_le s.sr.role
    have := Bool.toNat_le (esdAsserted s)
    have := Bool.toNat_le s.aq.withheld
    have := Bool.toNat_le s.ee.overrun
    simp only [flag]
    omega)

theorem nodeFlags_read (s : State) : (byteAt (nodePart s) 0).toNat % 4 = roleCode s.sr.role
    ∧ HasBit (byteAt (nodePart s) 0) 4 (decide (s.sr.esdLevel = .asserted))
    ∧ HasBit (byteAt (nodePart s) 0) 5 s.aq.withheld ∧ HasBit (byteAt (nodePart s) 0) 6 s.ee.overrun := by
  have := roleCode_le s.sr.role
  have := Bool.toNat_le (decide (s.sr.esdLevel = .asserted))
  have := Bool.toNat_le s.aq.withheld
  have := Bool.toNat_le s.ee.overrun
  simp only [HasBit, nodeFlags_toNat]
  omega

theorem timerFlags_toNat (s : State) (i : TimerNo) : (byteAt (timerPart s i) 0).toNat
    = (decide (s.ct.timers[i].params.mode = .count)).toNat
      + 2 * (decide (s.ct.timers[i].params.prescale = .by100)).toNat
      + 4 * (decide (s.ct.timers[i].run = .halted)).toNat := by
  have coded : byteAt (timerPart s i) 0 = byteOf ((decide (s.ct.timers[i].params.mode = .count)).toNat
      + 2 * (decide (s.ct.timers[i].params.prescale = .by100)).toNat
      + 4 * (decide (s.ct.timers[i].run = .halted)).toNat) := by
    unfold timerPart
    dsimp only
    cases s.ct.timers[i].params.mode <;> cases s.ct.timers[i].params.prescale <;> cases s.ct.timers[i].run <;> rfl
  rw [coded]
  refine byteOf_small ?_
  have := Bool.toNat_le (decide (s.ct.timers[i].params.mode = .count))
  have := Bool.toNat_le (decide (s.ct.timers[i].params.prescale = .by100))
  have := Bool.toNat_le (decide (s.ct.timers[i].run = .halted))
  omega

theorem timerFlags_read (s : State) (i : TimerNo) :
    HasBit (byteAt (timerPart s i) 0) 0 (decide (s.ct.timers[i].params.mode = .count))
      ∧ HasBit (byteAt (timerPart s i) 0) 1 (decide (s.ct.timers[i].params.prescale = .by100))
      ∧ HasBit (byteAt (timerPart s i) 0) 2 (decide (s.ct.timers[i].run = .halted)) := by
  have := Bool.toNat_le (decide (s.ct.timers[i].params.mode = .count))
  have := Bool.toNat_le (decide (s.ct.timers[i].params.prescale = .by100))
  have := Bool.toNat_le (decide (s.ct.timers[i].run = .halted))
  simp only [HasBit, timerFlags_toNat]
  omega

end Sys2Proof.Laws
end

section
/-! PROOFS. The contents of the answers. -/

namespace Sys2Proof.Proofs

open Machine Safety Laws

/-- Settles O54: each kind's parts, and each field where its byte or bytes stand. -/
theorem answersShowTheRecords : Obligations.AnswersShowTheRecords := by
  intro s q hs byte word signed bit rev state small
  obtain ⟨⟨-, htanks⟩, ⟨-, hmeters⟩, ⟨-, hvalves⟩, hpeersRise, hpeers⟩ := hs
  have hstate (x : ParcelState) : state x = stateCode x := by cases x <;> rfl
  have hcurrent {α : Type} (d : Decls α) : d.currentRev.toNat = rev d.current := by
    rw [Decls.currentRev]
    cases d.current <;> rfl
  have hstaged {α : Type} (d : Decls α) : d.stagedRev.toNat = rev d.staged := by
    rw [Decls.stagedRev]
    cases d.staged <;> rfl
  refine ⟨fun p c hk hp hc => ?_, fun k r w hk hsubject hr hw hconfirm => ?_,
    fun k r w hk hsubject hr hw hsound => ?_, fun t hk ht hc => ?_, fun hk => ?_, fun i hk hi => ?_⟩
  · intro r d f mark entries
    refine ⟨_, _, _, answerParts_three (answerContents_parcel hk hp hc), ?_, ?_, ?_⟩
    · obtain ⟨hst, hisStaged, hdepth, hmark⟩ := parcelFlags_read r d
      obtain ⟨hdirection, hcls, hbasis, hoption, hmask⟩ := parcelBits_read d
      have hmarkField : markField r = mark := by
        simp only [mark, markField]
        rcases r.pendingMark with _ | ⟨_ | _ | _, _⟩ <;> rfl
      exact ⟨hst.trans (hstate _).symm, hisStaged, hdepth, hmark.trans hmarkField,
        (hcurrent r.decl).trans (congrArg rev hc), hstaged _, hdirection, hcls, hbasis, hoption, hmask,
        fun h => unsignedAt_small (k := 2) h, fun h => unsignedAt_small (k := 2) h, fun h => byteOf_small h,
        fun h => unsignedAt_small (k := 2) h, rfl, parcelMark_expected r d⟩
    · obtain ⟨hst, hsaturated, hheld⟩ := publishedFlags_read r
      exact ⟨hst.trans (hstate _).symm, hsaturated, hheld, fun h => signed32At_signedBytes h,
        fun h => signed32At_signedBytes h, fun h => signed32At_signedBytes h⟩
    · obtain ⟨hexcursion, hdiverge, htankStale, hmeterStale, hesd, hexcHold, hsaturation, hclosing⟩ :=
        conditionFlags_read s p
      obtain ⟨hdiffers, htopState⟩ := differs_read hpeers p
      have hlength : entries.length ≤ 16 := peersOf_length_le hpeers p
      refine ⟨hexcursion, hdiverge, htankStale, hmeterStale, hesd, hexcHold, hsaturation, hclosing,
        fun hcount => byteOf_small (n := r.count + 8 * entries.length) (by omega), hdiffers,
        fun h => signed32At_signedBytes h, fun hnone => ?_, fun e he hcount hmax => ?_⟩
      · have htop : highestEntry (peersOf s p) = none := congrArg highestEntry hnone
        obtain ⟨hbyte, hd⟩ := parcelPart3_no_entry htop
        have hzero : topState s p = 0 := by rw [topState, htop]
        exact ⟨htopState.trans hzero, (congrArg BitVec.toNat hbyte).trans rfl,
          hd.trans (signed32At_signedBytes (by decide))⟩
      · have htop : highestEntry (peersOf s p) = some e := highestEntry_eq (peersOf_pairwise hpeersRise p) he hmax
        obtain ⟨hbyte, hd⟩ := parcelPart3_top htop
        have hstateTop : topState s p = stateCode e.state := by rw [topState, htop]
        have hpeer := e.peer.isLt
        exact ⟨htopState.trans (hstateTop.trans (hstate _).symm),
          (congrArg BitVec.toNat hbyte).trans (byteOf_small (by omega)), fun h => hd.trans (signed32At_signedBytes h)⟩
  · refine ⟨_, answerParts_one (answerContents_tank hk hsubject hr hw), ?_⟩
    obtain ⟨hside, hgauge, hvolume, htemp, hrebased, hcount, hisStaged⟩ := tankFlags_read r hconfirm
    obtain ⟨hcode, hreading, hcurrentSome, hopeningSome⟩ := tankHeld_read r w
    have hparcel : parcelCode w.parcel = match w.parcel with | some p => p.val | none => 15 := by
      cases w.parcel <;> rfl
    refine ⟨hside, hgauge, hvolume, htemp, hrebased, hcount, hisStaged, hcode.trans hparcel, hreading, hcurrentSome,
      hopeningSome, hcurrent _, hstaged _, fun hnone => ?_, fun g hg hlow hhigh => ?_, fun hc ho => ?_⟩
    · exact tankPart_no_temp r hnone
    · exact (tankPart_temp r hg).trans (signed16At_signedBytes hlow hhigh)
    · have volumes := tankPart_volumes r w hc ho
      rw [show unsignedAt (answerHead q false 1 1 ++ tankPart r w) 9 7 = unsignedAt (tankPart r w) 6 7 from rfl,
        volumes]
      omega
  · refine ⟨_, _, answerParts_two (answerContents_meter hk hsubject hr hw), ?_⟩
    obtain ⟨hlow, hhigh, hresidue, -, hrouted, hconflict, hunrouted⟩ := hsound
    obtain ⟨hbreak, hdeferred, htemp, hreading, hbaseline, hisStaged⟩ := meterFlags_read r w
    obtain ⟨routed, conflict, unrouted⟩ := meterPart2_accumulators hrouted hconflict hunrouted
    exact ⟨hbreak, hdeferred, htemp, hreading, hbaseline, hisStaged, hcurrent _, hstaged _,
      (congrArg (· + 95000) (unsignedAt_head false 1 2 _ 3 2)).trans (meterPart1_factor r hlow hhigh),
      (unsignedAt_head false 1 2 _ 5 3).trans (meterPart1_cumulative r w),
      fun hnone => (unsignedAt_head false 1 2 _ 8 2).trans (meterPart1_no_temp r hnone),
      fun g hg hlow hhigh => (signed16At_head false 1 2 _ 8).trans
        ((meterPart1_temp r hg).trans (signed16At_signedBytes hlow hhigh)),
      (unsignedAt_head false 1 2 _ 10 3).trans (meterPart1_baseline r w),
      (unsignedAt_head false 2 2 _ 0 4).trans routed, (unsignedAt_head false 2 2 _ 4 4).trans conflict,
      (unsignedAt_head false 2 2 _ 8 4).trans unrouted,
      (congrArg BitVec.toNat (byteAt_head false 2 2 _ 12)).trans (meterPart2_residue hresidue)⟩
  · intro r
    refine ⟨_, answerParts_one (answerContents_term hk ht hc), ?_⟩
    obtain ⟨hterm, hisStaged⟩ := termFlags_read r
    refine ⟨hterm, hisStaged, hcurrent _, hstaged _, fun hnone => ?_, fun v hv hfew => ?_⟩
    · refine ⟨?_, ?_, fun i _ => congrArg BitVec.toNat (termPart_zeros hnone i)⟩
      · show (byteAt (termPart r) 3).toNat = 0
        rw [termPart_empty hnone]
        rfl
      · show (byteAt (termPart r) 4).toNat = 15
        rw [termPart_empty hnone]
        rfl
    · refine ⟨?_, ?_, fun i hi => ⟨fun l hl => ?_, fun hl => ?_⟩⟩
      · show (byteAt (termPart r) 3).toNat = _
        rw [termPart_held hv]
        exact byteOf_small ((keyCode_lt _).trans (by decide))
      · show (byteAt (termPart r) 4).toNat = _
        rw [termPart_held hv]
        have := v.parcel.isLt
        exact byteOf_small (by omega)
      · obtain ⟨hfirst, hsecond⟩ := (literalBytes_at v.literals 8 i).1 l hl
        have hvalve := l.valve.isLt
        refine ⟨?_, ?_⟩
        · show (byteAt (termPart r) (5 + 2 * i)).toNat = _
          rw [termPart_literals hv (by omega), hfirst]
          exact byteOf_small (literalCode_lt l)
        · show (byteAt (termPart r) (6 + 2 * i)).toNat = _
          rw [show 6 + 2 * i = 5 + (2 * i + 1) by omega, termPart_literals hv (by omega), hsecond]
          exact byteOf_small (by omega)
      · obtain ⟨hfirst, hsecond⟩ := (literalBytes_at v.literals 8 i).2 hl
        refine ⟨?_, ?_⟩
        · show (byteAt (termPart r) (5 + 2 * i)).toNat = 0
          rw [termPart_literals hv (by omega), hfirst]
          rfl
        · show (byteAt (termPart r) (6 + 2 * i)).toNat = 0
          rw [show 6 + 2 * i = 5 + (2 * i + 1) by omega, termPart_literals hv (by omega), hsecond]
          rfl
  · refine ⟨_, answerParts_one (answerContents_node hk), ?_⟩
    obtain ⟨hrole, hesd, hwithheld, hoverrun⟩ := nodeFlags_read s
    have haddress := s.sr.address.isLt
    have hterms := heldTerms_length_le s
    exact ⟨hrole.trans (by cases s.sr.role <;> rfl), hesd, hwithheld, hoverrun, byteOf_small (by omega),
      unsignedAt_small (k := 4) s.sr.clock.isLt, byteOf_small (by omega), byteOf_small (by omega),
      (byteOf_small (by omega)).trans (heldTerms_length s), byteOf_small (by omega), byteOf_small (by omega),
      fun h => byteOf_small (by omega), fun h => byteOf_small (by omega)⟩
  · intro t
    refine ⟨_, answerParts_one (answerContents_timer hk hi), ?_⟩
    obtain ⟨hmode, hprescale, hrun⟩ := timerFlags_read s i
    refine ⟨hmode, hprescale, hrun,
      fun hlow hhigh => ?_, fun hcount => unsignedAt_small (k := 2) (v := t.count) (by omega),
      fun hlimit => byteOf_small ?_⟩
    · refine (byteOf_toNat t.params.constant).trans ?_
      split <;> omega
    · split <;> omega

end Sys2Proof.Proofs
end
